-- ==== Sys2Proof/Word.lean ====
section
/-! DEFINITION. The widths of the machine's words (00_scope.md rule R10, 10_state.md rules R30, R33, R37). -/

namespace Sys2Proof

/-- A byte of memory or of an instruction. -/
abbrev Byte := BitVec 8

/-- A general register, an address, EFLAGS, MXCSR (10_state.md rule R30). -/
abbrev Dword := BitVec 32

/-- An MMX register (10_state.md rule R34). -/
abbrev Qword := BitVec 64

/-- A physical x87 register (10_state.md rule R33). -/
abbrev Fpr := BitVec 80

/-- An XMM register (10_state.md rule R37). -/
abbrev Xmm := BitVec 128

end Sys2Proof
end

