-- ==== Sys2Proof/Syntax.lean ====
section
/-! DEFINITION. The instructions: the rows of spec/opcode_table.json, with the operands each row's encoding
admits (30_encoding.md rules R124 to R136). `reg` and `rm` are the ModRM fields; which of the two is the
destination is the row's format (R130) and stands in each constructor's docstring. -/

namespace Sys2Proof

/-- The three extension levels, `MMX < SSE < SSE2` (00_scope.md rule R3, 30_encoding.md rule R139). -/
inductive Ext where
  | mmx | sse | sse2
deriving DecidableEq, Repr

/-- The six segment registers (10_state.md rule R46). -/
inductive Seg where
  | es | cs | ss | ds | fs | gs
deriving DecidableEq, Repr

/-- A 3-bit register number; the row says which register file it names (30_encoding.md rule R129). -/
abbrev Reg := BitVec 3

/-- An immediate byte, always read as unsigned (30_encoding.md rule R127). -/
abbrev Imm8 := BitVec 8

/-- The predicate of CMPPS, CMPSS, CMPPD, CMPSD: `imm8[2:0]`; `imm8[7:3]` must be zero (30_encoding.md rule R131). -/
abbrev Pred := BitVec 3

/-- A memory operand: effective segment (override or default, R128) and the parts of the effective address
`base + index * 2^scale + disp` (R125, R126). -/
structure MemOp where
  seg   : Seg
  base  : Option Reg
  index : Option Reg
  scale : BitVec 2
  disp  : Dword
deriving DecidableEq, Repr

/-- What the ModRM `mod` and `rm` fields name: a register (`mod = 3`) or a memory operand (R124). -/
inductive RM where
  | reg (r : Reg)
  | mem (m : MemOp)
deriving DecidableEq, Repr

/-- The direction of a move whose two opcodes are two rows of the table: `load` writes the register `reg`, `store`
writes the register or memory operand `rm` (30_encoding.md rules R130, R132). -/
inductive Dir where
  | load | store
deriving DecidableEq, Repr

/-- The count of a packed shift, two rows of the table: a register or memory operand, or an immediate byte. -/
inductive Count where
  | rm (rm : RM)
  | imm (imm : Imm8)
deriving DecidableEq, Repr

/-- The instructions of MMX, SSE and SSE2. Each constructor is one row of the opcode table, but that the load and
store rows of a move, and the register-count and immediate-count rows of a packed shift, are one constructor whose
operand `dir` or `count` says which row (log 24). -/
inductive Instr where
  /-- `MOVD mm, r/m32`, `0F 6E /r`, NP-RM (MMX, 40_mmx.md rule R203); `MOVD r/m32, mm`, `0F 7E /r`, NP-MR (MMX, 40_mmx.md rule R204). -/
  | movdMm (dir : Dir) (reg : Reg) (rm : RM)
  /-- `MOVQ mm, mm/m64`, `0F 6F /r`, NP-RM (MMX, 40_mmx.md rule R205); `MOVQ mm/m64, mm`, `0F 7F /r`, NP-MR (MMX, 40_mmx.md rule R206). -/
  | movqMm (dir : Dir) (reg : Reg) (rm : RM)
  /-- `PADDB mm, mm/m64`, `0F FC /r`, NP-RM (MMX, 40_mmx.md rule R207). -/
  | paddbMm (reg : Reg) (rm : RM)
  /-- `PADDW mm, mm/m64`, `0F FD /r`, NP-RM (MMX, 40_mmx.md rule R208). -/
  | paddwMm (reg : Reg) (rm : RM)
  /-- `PADDD mm, mm/m64`, `0F FE /r`, NP-RM (MMX, 40_mmx.md rule R209). -/
  | padddMm (reg : Reg) (rm : RM)
  /-- `PADDSB mm, mm/m64`, `0F EC /r`, NP-RM (MMX, 40_mmx.md rule R210). -/
  | paddsbMm (reg : Reg) (rm : RM)
  /-- `PADDSW mm, mm/m64`, `0F ED /r`, NP-RM (MMX, 40_mmx.md rule R211). -/
  | paddswMm (reg : Reg) (rm : RM)
  /-- `PADDUSB mm, mm/m64`, `0F DC /r`, NP-RM (MMX, 40_mmx.md rule R212). -/
  | paddusbMm (reg : Reg) (rm : RM)
  /-- `PADDUSW mm, mm/m64`, `0F DD /r`, NP-RM (MMX, 40_mmx.md rule R213). -/
  | padduswMm (reg : Reg) (rm : RM)
  /-- `PSUBB mm, mm/m64`, `0F F8 /r`, NP-RM (MMX, 40_mmx.md rule R214). -/
  | psubbMm (reg : Reg) (rm : RM)
  /-- `PSUBW mm, mm/m64`, `0F F9 /r`, NP-RM (MMX, 40_mmx.md rule R215). -/
  | psubwMm (reg : Reg) (rm : RM)
  /-- `PSUBD mm, mm/m64`, `0F FA /r`, NP-RM (MMX, 40_mmx.md rule R216). -/
  | psubdMm (reg : Reg) (rm : RM)
  /-- `PSUBSB mm, mm/m64`, `0F E8 /r`, NP-RM (MMX, 40_mmx.md rule R217). -/
  | psubsbMm (reg : Reg) (rm : RM)
  /-- `PSUBSW mm, mm/m64`, `0F E9 /r`, NP-RM (MMX, 40_mmx.md rule R218). -/
  | psubswMm (reg : Reg) (rm : RM)
  /-- `PSUBUSB mm, mm/m64`, `0F D8 /r`, NP-RM (MMX, 40_mmx.md rule R219). -/
  | psubusbMm (reg : Reg) (rm : RM)
  /-- `PSUBUSW mm, mm/m64`, `0F D9 /r`, NP-RM (MMX, 40_mmx.md rule R220). -/
  | psubuswMm (reg : Reg) (rm : RM)
  /-- `PMULLW mm, mm/m64`, `0F D5 /r`, NP-RM (MMX, 40_mmx.md rule R221). -/
  | pmullwMm (reg : Reg) (rm : RM)
  /-- `PMULHW mm, mm/m64`, `0F E5 /r`, NP-RM (MMX, 40_mmx.md rule R222). -/
  | pmulhwMm (reg : Reg) (rm : RM)
  /-- `PMADDWD mm, mm/m64`, `0F F5 /r`, NP-RM (MMX, 40_mmx.md rule R223). -/
  | pmaddwdMm (reg : Reg) (rm : RM)
  /-- `PCMPEQB mm, mm/m64`, `0F 74 /r`, NP-RM (MMX, 40_mmx.md rule R224). -/
  | pcmpeqbMm (reg : Reg) (rm : RM)
  /-- `PCMPEQW mm, mm/m64`, `0F 75 /r`, NP-RM (MMX, 40_mmx.md rule R225). -/
  | pcmpeqwMm (reg : Reg) (rm : RM)
  /-- `PCMPEQD mm, mm/m64`, `0F 76 /r`, NP-RM (MMX, 40_mmx.md rule R226). -/
  | pcmpeqdMm (reg : Reg) (rm : RM)
  /-- `PCMPGTB mm, mm/m64`, `0F 64 /r`, NP-RM (MMX, 40_mmx.md rule R227). -/
  | pcmpgtbMm (reg : Reg) (rm : RM)
  /-- `PCMPGTW mm, mm/m64`, `0F 65 /r`, NP-RM (MMX, 40_mmx.md rule R228). -/
  | pcmpgtwMm (reg : Reg) (rm : RM)
  /-- `PCMPGTD mm, mm/m64`, `0F 66 /r`, NP-RM (MMX, 40_mmx.md rule R229). -/
  | pcmpgtdMm (reg : Reg) (rm : RM)
  /-- `PACKSSWB mm, mm/m64`, `0F 63 /r`, NP-RM (MMX, 40_mmx_pack_logic_shift.md rule R230). -/
  | packsswbMm (reg : Reg) (rm : RM)
  /-- `PACKSSDW mm, mm/m64`, `0F 6B /r`, NP-RM (MMX, 40_mmx_pack_logic_shift.md rule R231). -/
  | packssdwMm (reg : Reg) (rm : RM)
  /-- `PACKUSWB mm, mm/m64`, `0F 67 /r`, NP-RM (MMX, 40_mmx_pack_logic_shift.md rule R232). -/
  | packuswbMm (reg : Reg) (rm : RM)
  /-- `PUNPCKHBW mm, mm/m64`, `0F 68 /r`, NP-RM (MMX, 40_mmx_pack_logic_shift.md rule R233). -/
  | punpckhbwMm (reg : Reg) (rm : RM)
  /-- `PUNPCKHWD mm, mm/m64`, `0F 69 /r`, NP-RM (MMX, 40_mmx_pack_logic_shift.md rule R234). -/
  | punpckhwdMm (reg : Reg) (rm : RM)
  /-- `PUNPCKHDQ mm, mm/m64`, `0F 6A /r`, NP-RM (MMX, 40_mmx_pack_logic_shift.md rule R235). -/
  | punpckhdqMm (reg : Reg) (rm : RM)
  /-- `PUNPCKLBW mm, mm/m32`, `0F 60 /r`, NP-RM (MMX, 40_mmx_pack_logic_shift.md rule R236). -/
  | punpcklbwMm (reg : Reg) (rm : RM)
  /-- `PUNPCKLWD mm, mm/m32`, `0F 61 /r`, NP-RM (MMX, 40_mmx_pack_logic_shift.md rule R237). -/
  | punpcklwdMm (reg : Reg) (rm : RM)
  /-- `PUNPCKLDQ mm, mm/m32`, `0F 62 /r`, NP-RM (MMX, 40_mmx_pack_logic_shift.md rule R238). -/
  | punpckldqMm (reg : Reg) (rm : RM)
  /-- `PAND mm, mm/m64`, `0F DB /r`, NP-RM (MMX, 40_mmx_pack_logic_shift.md rule R239). -/
  | pandMm (reg : Reg) (rm : RM)
  /-- `PANDN mm, mm/m64`, `0F DF /r`, NP-RM (MMX, 40_mmx_pack_logic_shift.md rule R240). -/
  | pandnMm (reg : Reg) (rm : RM)
  /-- `POR mm, mm/m64`, `0F EB /r`, NP-RM (MMX, 40_mmx_pack_logic_shift.md rule R241). -/
  | porMm (reg : Reg) (rm : RM)
  /-- `PXOR mm, mm/m64`, `0F EF /r`, NP-RM (MMX, 40_mmx_pack_logic_shift.md rule R242). -/
  | pxorMm (reg : Reg) (rm : RM)
  /-- `PSLLW mm, mm/m64`, `0F F1 /r`, NP-RM (MMX, 40_mmx_pack_logic_shift.md rule R243); `PSLLW mm, imm8`, `0F 71 /6 ib`, NP-MI (MMX, 40_mmx_pack_logic_shift.md rule R244). -/
  | psllwMm (dst : Reg) (count : Count)
  /-- `PSLLD mm, mm/m64`, `0F F2 /r`, NP-RM (MMX, 40_mmx_pack_logic_shift.md rule R245); `PSLLD mm, imm8`, `0F 72 /6 ib`, NP-MI (MMX, 40_mmx_pack_logic_shift.md rule R246). -/
  | pslldMm (dst : Reg) (count : Count)
  /-- `PSLLQ mm, mm/m64`, `0F F3 /r`, NP-RM (MMX, 40_mmx_pack_logic_shift.md rule R247); `PSLLQ mm, imm8`, `0F 73 /6 ib`, NP-MI (MMX, 40_mmx_pack_logic_shift.md rule R248). -/
  | psllqMm (dst : Reg) (count : Count)
  /-- `PSRLW mm, mm/m64`, `0F D1 /r`, NP-RM (MMX, 40_mmx_pack_logic_shift.md rule R249); `PSRLW mm, imm8`, `0F 71 /2 ib`, NP-MI (MMX, 40_mmx_pack_logic_shift.md rule R250). -/
  | psrlwMm (dst : Reg) (count : Count)
  /-- `PSRLD mm, mm/m64`, `0F D2 /r`, NP-RM (MMX, 40_mmx_pack_logic_shift.md rule R251); `PSRLD mm, imm8`, `0F 72 /2 ib`, NP-MI (MMX, 40_mmx_pack_logic_shift.md rule R252). -/
  | psrldMm (dst : Reg) (count : Count)
  /-- `PSRLQ mm, mm/m64`, `0F D3 /r`, NP-RM (MMX, 40_mmx_pack_logic_shift.md rule R253); `PSRLQ mm, imm8`, `0F 73 /2 ib`, NP-MI (MMX, 40_mmx_pack_logic_shift.md rule R254). -/
  | psrlqMm (dst : Reg) (count : Count)
  /-- `PSRAW mm, mm/m64`, `0F E1 /r`, NP-RM (MMX, 40_mmx_pack_logic_shift.md rule R255); `PSRAW mm, imm8`, `0F 71 /4 ib`, NP-MI (MMX, 40_mmx_pack_logic_shift.md rule R256). -/
  | psrawMm (dst : Reg) (count : Count)
  /-- `PSRAD mm, mm/m64`, `0F E2 /r`, NP-RM (MMX, 40_mmx_pack_logic_shift.md rule R257); `PSRAD mm, imm8`, `0F 72 /4 ib`, NP-MI (MMX, 40_mmx_pack_logic_shift.md rule R258). -/
  | psradMm (dst : Reg) (count : Count)
  /-- `MOVAPS xmm, xmm/m128`, `0F 28 /r`, NP-RM (SSE, 42_sse_fp.md rule R334); `MOVAPS xmm/m128, xmm`, `0F 29 /r`, NP-MR (SSE, 42_sse_fp.md rule R335). -/
  | movaps (dir : Dir) (reg : Reg) (rm : RM)
  /-- `MOVUPS xmm, xmm/m128`, `0F 10 /r`, NP-RM (SSE, 42_sse_fp.md rule R336); `MOVUPS xmm/m128, xmm`, `0F 11 /r`, NP-MR (SSE, 42_sse_fp.md rule R337). -/
  | movups (dir : Dir) (reg : Reg) (rm : RM)
  /-- `MOVSS xmm, xmm/m32`, `F3 0F 10 /r`, F3-RM (SSE, 42_sse_fp.md rule R338); `MOVSS xmm/m32, xmm`, `F3 0F 11 /r`, F3-MR (SSE, 42_sse_fp.md rule R339). -/
  | movss (dir : Dir) (reg : Reg) (rm : RM)
  /-- `MOVLPS xmm, m64`, `0F 12 /r`, NP-RM (SSE, 42_sse_fp.md rule R340); `MOVLPS m64, xmm`, `0F 13 /r`, NP-MR (SSE, 42_sse_fp.md rule R341). -/
  | movlps (dir : Dir) (reg : Reg) (m : MemOp)
  /-- `MOVHPS xmm, m64`, `0F 16 /r`, NP-RM (SSE, 42_sse_fp.md rule R342); `MOVHPS m64, xmm`, `0F 17 /r`, NP-MR (SSE, 42_sse_fp.md rule R343). -/
  | movhps (dir : Dir) (reg : Reg) (m : MemOp)
  /-- `MOVHLPS xmm, xmm`, `0F 12 /r`, NP-RM (SSE, 42_sse_fp.md rule R344). -/
  | movhlps (reg rm : Reg)
  /-- `MOVLHPS xmm, xmm`, `0F 16 /r`, NP-RM (SSE, 42_sse_fp.md rule R345). -/
  | movlhps (reg rm : Reg)
  /-- `MOVMSKPS r32, xmm`, `0F 50 /r`, NP-RM (SSE, 42_sse_fp.md rule R346). -/
  | movmskps (reg rm : Reg)
  /-- `ADDPS xmm, xmm/m128`, `0F 58 /r`, NP-RM (SSE, 42_sse_fp.md rule R347). -/
  | addps (reg : Reg) (rm : RM)
  /-- `ADDSS xmm, xmm/m32`, `F3 0F 58 /r`, F3-RM (SSE, 42_sse_fp.md rule R348). -/
  | addss (reg : Reg) (rm : RM)
  /-- `SUBPS xmm, xmm/m128`, `0F 5C /r`, NP-RM (SSE, 42_sse_fp.md rule R349). -/
  | subps (reg : Reg) (rm : RM)
  /-- `SUBSS xmm, xmm/m32`, `F3 0F 5C /r`, F3-RM (SSE, 42_sse_fp.md rule R350). -/
  | subss (reg : Reg) (rm : RM)
  /-- `MULPS xmm, xmm/m128`, `0F 59 /r`, NP-RM (SSE, 42_sse_fp.md rule R351). -/
  | mulps (reg : Reg) (rm : RM)
  /-- `MULSS xmm, xmm/m32`, `F3 0F 59 /r`, F3-RM (SSE, 42_sse_fp.md rule R352). -/
  | mulss (reg : Reg) (rm : RM)
  /-- `DIVPS xmm, xmm/m128`, `0F 5E /r`, NP-RM (SSE, 42_sse_fp.md rule R353). -/
  | divps (reg : Reg) (rm : RM)
  /-- `DIVSS xmm, xmm/m32`, `F3 0F 5E /r`, F3-RM (SSE, 42_sse_fp.md rule R354). -/
  | divss (reg : Reg) (rm : RM)
  /-- `MAXPS xmm, xmm/m128`, `0F 5F /r`, NP-RM (SSE, 42_sse_fp.md rule R355). -/
  | maxps (reg : Reg) (rm : RM)
  /-- `MAXSS xmm, xmm/m32`, `F3 0F 5F /r`, F3-RM (SSE, 42_sse_fp.md rule R356). -/
  | maxss (reg : Reg) (rm : RM)
  /-- `MINPS xmm, xmm/m128`, `0F 5D /r`, NP-RM (SSE, 42_sse_fp.md rule R357). -/
  | minps (reg : Reg) (rm : RM)
  /-- `MINSS xmm, xmm/m32`, `F3 0F 5D /r`, F3-RM (SSE, 42_sse_fp.md rule R358). -/
  | minss (reg : Reg) (rm : RM)
  /-- `SQRTPS xmm, xmm/m128`, `0F 51 /r`, NP-RM (SSE, 42_sse_fp.md rule R359). -/
  | sqrtps (reg : Reg) (rm : RM)
  /-- `SQRTSS xmm, xmm/m32`, `F3 0F 51 /r`, F3-RM (SSE, 42_sse_fp.md rule R360). -/
  | sqrtss (reg : Reg) (rm : RM)
  /-- `RCPPS xmm, xmm/m128`, `0F 53 /r`, NP-RM (SSE, 42_sse_fp.md rule R361). -/
  | rcpps (reg : Reg) (rm : RM)
  /-- `RCPSS xmm, xmm/m32`, `F3 0F 53 /r`, F3-RM (SSE, 42_sse_fp.md rule R362). -/
  | rcpss (reg : Reg) (rm : RM)
  /-- `RSQRTPS xmm, xmm/m128`, `0F 52 /r`, NP-RM (SSE, 42_sse_fp.md rule R363). -/
  | rsqrtps (reg : Reg) (rm : RM)
  /-- `RSQRTSS xmm, xmm/m32`, `F3 0F 52 /r`, F3-RM (SSE, 42_sse_fp.md rule R364). -/
  | rsqrtss (reg : Reg) (rm : RM)
  /-- `CMPPS xmm, xmm/m128, imm8`, `0F C2 /r ib`, NP-RMI (SSE, 42_sse_fp_cmp_conv.md rule R365). -/
  | cmpps (reg : Reg) (rm : RM) (pred : Pred)
  /-- `CMPSS xmm, xmm/m32, imm8`, `F3 0F C2 /r ib`, F3-RMI (SSE, 42_sse_fp_cmp_conv.md rule R366). -/
  | cmpss (reg : Reg) (rm : RM) (pred : Pred)
  /-- `COMISS xmm, xmm/m32`, `0F 2F /r`, NP-RM (SSE, 42_sse_fp_cmp_conv.md rule R367). -/
  | comiss (reg : Reg) (rm : RM)
  /-- `UCOMISS xmm, xmm/m32`, `0F 2E /r`, NP-RM (SSE, 42_sse_fp_cmp_conv.md rule R368). -/
  | ucomiss (reg : Reg) (rm : RM)
  /-- `CVTPI2PS xmm, mm/m64`, `0F 2A /r`, NP-RM (SSE, 42_sse_fp_cmp_conv.md rule R369). -/
  | cvtpi2ps (reg : Reg) (rm : RM)
  /-- `CVTPS2PI mm, xmm/m64`, `0F 2D /r`, NP-RM (SSE, 42_sse_fp_cmp_conv.md rule R370). -/
  | cvtps2pi (reg : Reg) (rm : RM)
  /-- `CVTTPS2PI mm, xmm/m64`, `0F 2C /r`, NP-RM (SSE, 42_sse_fp_cmp_conv.md rule R371). -/
  | cvttps2pi (reg : Reg) (rm : RM)
  /-- `CVTSI2SS xmm, r32/m32`, `F3 0F 2A /r`, F3-RM (SSE, 42_sse_fp_cmp_conv.md rule R372). -/
  | cvtsi2ss (reg : Reg) (rm : RM)
  /-- `CVTSS2SI r32, xmm/m32`, `F3 0F 2D /r`, F3-RM (SSE, 42_sse_fp_cmp_conv.md rule R373). -/
  | cvtss2si (reg : Reg) (rm : RM)
  /-- `CVTTSS2SI r32, xmm/m32`, `F3 0F 2C /r`, F3-RM (SSE, 42_sse_fp_cmp_conv.md rule R374). -/
  | cvttss2si (reg : Reg) (rm : RM)
  /-- `ANDPS xmm, xmm/m128`, `0F 54 /r`, NP-RM (SSE, 42_sse_fp_cmp_conv.md rule R375). -/
  | andps (reg : Reg) (rm : RM)
  /-- `ANDNPS xmm, xmm/m128`, `0F 55 /r`, NP-RM (SSE, 42_sse_fp_cmp_conv.md rule R376). -/
  | andnps (reg : Reg) (rm : RM)
  /-- `ORPS xmm, xmm/m128`, `0F 56 /r`, NP-RM (SSE, 42_sse_fp_cmp_conv.md rule R377). -/
  | orps (reg : Reg) (rm : RM)
  /-- `XORPS xmm, xmm/m128`, `0F 57 /r`, NP-RM (SSE, 42_sse_fp_cmp_conv.md rule R378). -/
  | xorps (reg : Reg) (rm : RM)
  /-- `SHUFPS xmm, xmm/m128, imm8`, `0F C6 /r ib`, NP-RMI (SSE, 42_sse_fp_cmp_conv.md rule R379). -/
  | shufps (reg : Reg) (rm : RM) (imm : Imm8)
  /-- `UNPCKHPS xmm, xmm/m128`, `0F 15 /r`, NP-RM (SSE, 42_sse_fp_cmp_conv.md rule R380). -/
  | unpckhps (reg : Reg) (rm : RM)
  /-- `UNPCKLPS xmm, xmm/m128`, `0F 14 /r`, NP-RM (SSE, 42_sse_fp_cmp_conv.md rule R381). -/
  | unpcklps (reg : Reg) (rm : RM)
  /-- `PAVGB mm, mm/m64`, `0F E0 /r`, NP-RM (SSE, 43_sse_int_state_cache.md rule R412). -/
  | pavgbMm (reg : Reg) (rm : RM)
  /-- `PAVGW mm, mm/m64`, `0F E3 /r`, NP-RM (SSE, 43_sse_int_state_cache.md rule R413). -/
  | pavgwMm (reg : Reg) (rm : RM)
  /-- `PEXTRW r32, mm, imm8`, `0F C5 /r ib`, NP-RMI (SSE, 43_sse_int_state_cache.md rule R414). -/
  | pextrwMm (reg rm : Reg) (imm : Imm8)
  /-- `PINSRW mm, r32/m16, imm8`, `0F C4 /r ib`, NP-RMI (SSE, 43_sse_int_state_cache.md rule R415). -/
  | pinsrwMm (reg : Reg) (rm : RM) (imm : Imm8)
  /-- `PMAXSW mm, mm/m64`, `0F EE /r`, NP-RM (SSE, 43_sse_int_state_cache.md rule R416). -/
  | pmaxswMm (reg : Reg) (rm : RM)
  /-- `PMAXUB mm, mm/m64`, `0F DE /r`, NP-RM (SSE, 43_sse_int_state_cache.md rule R417). -/
  | pmaxubMm (reg : Reg) (rm : RM)
  /-- `PMINSW mm, mm/m64`, `0F EA /r`, NP-RM (SSE, 43_sse_int_state_cache.md rule R418). -/
  | pminswMm (reg : Reg) (rm : RM)
  /-- `PMINUB mm, mm/m64`, `0F DA /r`, NP-RM (SSE, 43_sse_int_state_cache.md rule R419). -/
  | pminubMm (reg : Reg) (rm : RM)
  /-- `PMOVMSKB r32, mm`, `0F D7 /r`, NP-RM (SSE, 43_sse_int_state_cache.md rule R420). -/
  | pmovmskbMm (reg rm : Reg)
  /-- `PMULHUW mm, mm/m64`, `0F E4 /r`, NP-RM (SSE, 43_sse_int_state_cache.md rule R421). -/
  | pmulhuwMm (reg : Reg) (rm : RM)
  /-- `PSADBW mm, mm/m64`, `0F F6 /r`, NP-RM (SSE, 43_sse_int_state_cache.md rule R422). -/
  | psadbwMm (reg : Reg) (rm : RM)
  /-- `PSHUFW mm, mm/m64, imm8`, `0F 70 /r ib`, NP-RMI (SSE, 43_sse_int_state_cache.md rule R423). -/
  | pshufw (reg : Reg) (rm : RM) (imm : Imm8)
  /-- `LDMXCSR m32`, `0F AE /2`, NP-M (SSE, 43_sse_int_state_cache.md rule R424). -/
  | ldmxcsr (m : MemOp)
  /-- `STMXCSR m32`, `0F AE /3`, NP-M (SSE, 43_sse_int_state_cache.md rule R425). -/
  | stmxcsr (m : MemOp)
  /-- `FXSAVE m512byte`, `0F AE /0`, NP-M (SSE, 43_sse_int_state_cache.md rule R426). -/
  | fxsave (m : MemOp)
  /-- `FXRSTOR m512byte`, `0F AE /1`, NP-M (SSE, 43_sse_int_state_cache.md rule R427). -/
  | fxrstor (m : MemOp)
  /-- `MASKMOVQ mm1, mm2`, `0F F7 /r`, NP-RM (SSE, 43_sse_int_state_cache.md rule R428). -/
  | maskmovq (reg rm : Reg) (seg : Seg)
  /-- `MOVNTQ m64, mm`, `0F E7 /r`, NP-MR (SSE, 43_sse_int_state_cache.md rule R429). -/
  | movntq (reg : Reg) (m : MemOp)
  /-- `MOVNTPS m128, xmm`, `0F 2B /r`, NP-MR (SSE, 43_sse_int_state_cache.md rule R430). -/
  | movntps (reg : Reg) (m : MemOp)
  /-- `PREFETCHT0 m8`, `0F 18 /1`, NP-M (SSE, 43_sse_int_state_cache.md rule R432). -/
  | prefetcht0 (m : MemOp)
  /-- `PREFETCHT1 m8`, `0F 18 /2`, NP-M (SSE, 43_sse_int_state_cache.md rule R433). -/
  | prefetcht1 (m : MemOp)
  /-- `PREFETCHT2 m8`, `0F 18 /3`, NP-M (SSE, 43_sse_int_state_cache.md rule R434). -/
  | prefetcht2 (m : MemOp)
  /-- `PREFETCHNTA m8`, `0F 18 /0`, NP-M (SSE, 43_sse_int_state_cache.md rule R435). -/
  | prefetchnta (m : MemOp)
  /-- `MOVAPD xmm, xmm/m128`, `66 0F 28 /r`, 66-RM (SSE2, 44_sse2_fp.md rule R453); `MOVAPD xmm/m128, xmm`, `66 0F 29 /r`, 66-MR (SSE2, 44_sse2_fp.md rule R454). -/
  | movapd (dir : Dir) (reg : Reg) (rm : RM)
  /-- `MOVUPD xmm, xmm/m128`, `66 0F 10 /r`, 66-RM (SSE2, 44_sse2_fp.md rule R455); `MOVUPD xmm/m128, xmm`, `66 0F 11 /r`, 66-MR (SSE2, 44_sse2_fp.md rule R456). -/
  | movupd (dir : Dir) (reg : Reg) (rm : RM)
  /-- `MOVSD xmm, xmm/m64`, `F2 0F 10 /r`, F2-RM (SSE2, 44_sse2_fp.md rule R457); `MOVSD xmm/m64, xmm`, `F2 0F 11 /r`, F2-MR (SSE2, 44_sse2_fp.md rule R458). -/
  | movsd (dir : Dir) (reg : Reg) (rm : RM)
  /-- `MOVLPD xmm, m64`, `66 0F 12 /r`, 66-RM (SSE2, 44_sse2_fp.md rule R459); `MOVLPD m64, xmm`, `66 0F 13 /r`, 66-MR (SSE2, 44_sse2_fp.md rule R460). -/
  | movlpd (dir : Dir) (reg : Reg) (m : MemOp)
  /-- `MOVHPD xmm, m64`, `66 0F 16 /r`, 66-RM (SSE2, 44_sse2_fp.md rule R461); `MOVHPD m64, xmm`, `66 0F 17 /r`, 66-MR (SSE2, 44_sse2_fp.md rule R462). -/
  | movhpd (dir : Dir) (reg : Reg) (m : MemOp)
  /-- `MOVMSKPD r32, xmm`, `66 0F 50 /r`, 66-RM (SSE2, 44_sse2_fp.md rule R463). -/
  | movmskpd (reg rm : Reg)
  /-- `ADDPD xmm, xmm/m128`, `66 0F 58 /r`, 66-RM (SSE2, 44_sse2_fp.md rule R464). -/
  | addpd (reg : Reg) (rm : RM)
  /-- `ADDSD xmm, xmm/m64`, `F2 0F 58 /r`, F2-RM (SSE2, 44_sse2_fp.md rule R465). -/
  | addsd (reg : Reg) (rm : RM)
  /-- `SUBPD xmm, xmm/m128`, `66 0F 5C /r`, 66-RM (SSE2, 44_sse2_fp.md rule R466). -/
  | subpd (reg : Reg) (rm : RM)
  /-- `SUBSD xmm, xmm/m64`, `F2 0F 5C /r`, F2-RM (SSE2, 44_sse2_fp.md rule R467). -/
  | subsd (reg : Reg) (rm : RM)
  /-- `MULPD xmm, xmm/m128`, `66 0F 59 /r`, 66-RM (SSE2, 44_sse2_fp.md rule R468). -/
  | mulpd (reg : Reg) (rm : RM)
  /-- `MULSD xmm, xmm/m64`, `F2 0F 59 /r`, F2-RM (SSE2, 44_sse2_fp.md rule R469). -/
  | mulsd (reg : Reg) (rm : RM)
  /-- `DIVPD xmm, xmm/m128`, `66 0F 5E /r`, 66-RM (SSE2, 44_sse2_fp.md rule R470). -/
  | divpd (reg : Reg) (rm : RM)
  /-- `DIVSD xmm, xmm/m64`, `F2 0F 5E /r`, F2-RM (SSE2, 44_sse2_fp.md rule R471). -/
  | divsd (reg : Reg) (rm : RM)
  /-- `MAXPD xmm, xmm/m128`, `66 0F 5F /r`, 66-RM (SSE2, 44_sse2_fp.md rule R472). -/
  | maxpd (reg : Reg) (rm : RM)
  /-- `MAXSD xmm, xmm/m64`, `F2 0F 5F /r`, F2-RM (SSE2, 44_sse2_fp.md rule R473). -/
  | maxsd (reg : Reg) (rm : RM)
  /-- `MINPD xmm, xmm/m128`, `66 0F 5D /r`, 66-RM (SSE2, 44_sse2_fp.md rule R474). -/
  | minpd (reg : Reg) (rm : RM)
  /-- `MINSD xmm, xmm/m64`, `F2 0F 5D /r`, F2-RM (SSE2, 44_sse2_fp.md rule R475). -/
  | minsd (reg : Reg) (rm : RM)
  /-- `SQRTPD xmm, xmm/m128`, `66 0F 51 /r`, 66-RM (SSE2, 44_sse2_fp.md rule R476). -/
  | sqrtpd (reg : Reg) (rm : RM)
  /-- `SQRTSD xmm, xmm/m64`, `F2 0F 51 /r`, F2-RM (SSE2, 44_sse2_fp.md rule R477). -/
  | sqrtsd (reg : Reg) (rm : RM)
  /-- `CMPPD xmm, xmm/m128, imm8`, `66 0F C2 /r ib`, 66-RMI (SSE2, 44_sse2_fp.md rule R478). -/
  | cmppd (reg : Reg) (rm : RM) (pred : Pred)
  /-- `CMPSD xmm, xmm/m64, imm8`, `F2 0F C2 /r ib`, F2-RMI (SSE2, 44_sse2_fp.md rule R479). -/
  | cmpsd (reg : Reg) (rm : RM) (pred : Pred)
  /-- `COMISD xmm, xmm/m64`, `66 0F 2F /r`, 66-RM (SSE2, 44_sse2_fp.md rule R480). -/
  | comisd (reg : Reg) (rm : RM)
  /-- `UCOMISD xmm, xmm/m64`, `66 0F 2E /r`, 66-RM (SSE2, 44_sse2_fp.md rule R481). -/
  | ucomisd (reg : Reg) (rm : RM)
  /-- `ANDPD xmm, xmm/m128`, `66 0F 54 /r`, 66-RM (SSE2, 44_sse2_fp.md rule R482). -/
  | andpd (reg : Reg) (rm : RM)
  /-- `ANDNPD xmm, xmm/m128`, `66 0F 55 /r`, 66-RM (SSE2, 44_sse2_fp.md rule R483). -/
  | andnpd (reg : Reg) (rm : RM)
  /-- `ORPD xmm, xmm/m128`, `66 0F 56 /r`, 66-RM (SSE2, 44_sse2_fp.md rule R484). -/
  | orpd (reg : Reg) (rm : RM)
  /-- `XORPD xmm, xmm/m128`, `66 0F 57 /r`, 66-RM (SSE2, 44_sse2_fp.md rule R485). -/
  | xorpd (reg : Reg) (rm : RM)
  /-- `SHUFPD xmm, xmm/m128, imm8`, `66 0F C6 /r ib`, 66-RMI (SSE2, 44_sse2_fp.md rule R486). -/
  | shufpd (reg : Reg) (rm : RM) (imm : Imm8)
  /-- `UNPCKHPD xmm, xmm/m128`, `66 0F 15 /r`, 66-RM (SSE2, 44_sse2_fp.md rule R487). -/
  | unpckhpd (reg : Reg) (rm : RM)
  /-- `UNPCKLPD xmm, xmm/m128`, `66 0F 14 /r`, 66-RM (SSE2, 44_sse2_fp.md rule R488). -/
  | unpcklpd (reg : Reg) (rm : RM)
  /-- `CVTPD2PI mm, xmm/m128`, `66 0F 2D /r`, 66-RM (SSE2, 45_sse2_conversion.md rule R502). -/
  | cvtpd2pi (reg : Reg) (rm : RM)
  /-- `CVTTPD2PI mm, xmm/m128`, `66 0F 2C /r`, 66-RM (SSE2, 45_sse2_conversion.md rule R503). -/
  | cvttpd2pi (reg : Reg) (rm : RM)
  /-- `CVTPI2PD xmm, mm/m64`, `66 0F 2A /r`, 66-RM (SSE2, 45_sse2_conversion.md rule R504). -/
  | cvtpi2pd (reg : Reg) (rm : RM)
  /-- `CVTPD2DQ xmm, xmm/m128`, `F2 0F E6 /r`, F2-RM (SSE2, 45_sse2_conversion.md rule R505). -/
  | cvtpd2dq (reg : Reg) (rm : RM)
  /-- `CVTTPD2DQ xmm, xmm/m128`, `66 0F E6 /r`, 66-RM (SSE2, 45_sse2_conversion.md rule R506). -/
  | cvttpd2dq (reg : Reg) (rm : RM)
  /-- `CVTDQ2PD xmm, xmm/m64`, `F3 0F E6 /r`, F3-RM (SSE2, 45_sse2_conversion.md rule R507). -/
  | cvtdq2pd (reg : Reg) (rm : RM)
  /-- `CVTPS2PD xmm, xmm/m64`, `0F 5A /r`, NP-RM (SSE2, 45_sse2_conversion.md rule R508). -/
  | cvtps2pd (reg : Reg) (rm : RM)
  /-- `CVTPD2PS xmm, xmm/m128`, `66 0F 5A /r`, 66-RM (SSE2, 45_sse2_conversion.md rule R509). -/
  | cvtpd2ps (reg : Reg) (rm : RM)
  /-- `CVTSS2SD xmm, xmm/m32`, `F3 0F 5A /r`, F3-RM (SSE2, 45_sse2_conversion.md rule R510). -/
  | cvtss2sd (reg : Reg) (rm : RM)
  /-- `CVTSD2SS xmm, xmm/m64`, `F2 0F 5A /r`, F2-RM (SSE2, 45_sse2_conversion.md rule R511). -/
  | cvtsd2ss (reg : Reg) (rm : RM)
  /-- `CVTSD2SI r32, xmm/m64`, `F2 0F 2D /r`, F2-RM (SSE2, 45_sse2_conversion.md rule R512). -/
  | cvtsd2si (reg : Reg) (rm : RM)
  /-- `CVTTSD2SI r32, xmm/m64`, `F2 0F 2C /r`, F2-RM (SSE2, 45_sse2_conversion.md rule R513). -/
  | cvttsd2si (reg : Reg) (rm : RM)
  /-- `CVTSI2SD xmm, r32/m32`, `F2 0F 2A /r`, F2-RM (SSE2, 45_sse2_conversion.md rule R514). -/
  | cvtsi2sd (reg : Reg) (rm : RM)
  /-- `CVTDQ2PS xmm, xmm/m128`, `0F 5B /r`, NP-RM (SSE2, 45_sse2_conversion.md rule R515). -/
  | cvtdq2ps (reg : Reg) (rm : RM)
  /-- `CVTPS2DQ xmm, xmm/m128`, `66 0F 5B /r`, 66-RM (SSE2, 45_sse2_conversion.md rule R516). -/
  | cvtps2dq (reg : Reg) (rm : RM)
  /-- `CVTTPS2DQ xmm, xmm/m128`, `F3 0F 5B /r`, F3-RM (SSE2, 45_sse2_conversion.md rule R517). -/
  | cvttps2dq (reg : Reg) (rm : RM)
  /-- `MOVD xmm, r/m32`, `66 0F 6E /r`, 66-RM (SSE2, 46_sse2_int128_ext.md rule R532); `MOVD r/m32, xmm`, `66 0F 7E /r`, 66-MR (SSE2, 46_sse2_int128_ext.md rule R533). -/
  | movdXmm (dir : Dir) (reg : Reg) (rm : RM)
  /-- `MOVQ xmm, xmm/m64`, `F3 0F 7E /r`, F3-RM (SSE2, 46_sse2_int128_ext.md rule R534); `MOVQ xmm/m64, xmm`, `66 0F D6 /r`, 66-MR (SSE2, 46_sse2_int128_ext.md rule R535). -/
  | movqXmm (dir : Dir) (reg : Reg) (rm : RM)
  /-- `PADDB xmm, xmm/m128`, `66 0F FC /r`, 66-RM (SSE2, 46_sse2_int128_ext.md rule R536). -/
  | paddbXmm (reg : Reg) (rm : RM)
  /-- `PADDW xmm, xmm/m128`, `66 0F FD /r`, 66-RM (SSE2, 46_sse2_int128_ext.md rule R537). -/
  | paddwXmm (reg : Reg) (rm : RM)
  /-- `PADDD xmm, xmm/m128`, `66 0F FE /r`, 66-RM (SSE2, 46_sse2_int128_ext.md rule R538). -/
  | padddXmm (reg : Reg) (rm : RM)
  /-- `PADDSB xmm, xmm/m128`, `66 0F EC /r`, 66-RM (SSE2, 46_sse2_int128_ext.md rule R539). -/
  | paddsbXmm (reg : Reg) (rm : RM)
  /-- `PADDSW xmm, xmm/m128`, `66 0F ED /r`, 66-RM (SSE2, 46_sse2_int128_ext.md rule R540). -/
  | paddswXmm (reg : Reg) (rm : RM)
  /-- `PADDUSB xmm, xmm/m128`, `66 0F DC /r`, 66-RM (SSE2, 46_sse2_int128_ext.md rule R541). -/
  | paddusbXmm (reg : Reg) (rm : RM)
  /-- `PADDUSW xmm, xmm/m128`, `66 0F DD /r`, 66-RM (SSE2, 46_sse2_int128_ext.md rule R542). -/
  | padduswXmm (reg : Reg) (rm : RM)
  /-- `PSUBB xmm, xmm/m128`, `66 0F F8 /r`, 66-RM (SSE2, 46_sse2_int128_ext.md rule R543). -/
  | psubbXmm (reg : Reg) (rm : RM)
  /-- `PSUBW xmm, xmm/m128`, `66 0F F9 /r`, 66-RM (SSE2, 46_sse2_int128_ext.md rule R544). -/
  | psubwXmm (reg : Reg) (rm : RM)
  /-- `PSUBD xmm, xmm/m128`, `66 0F FA /r`, 66-RM (SSE2, 46_sse2_int128_ext.md rule R545). -/
  | psubdXmm (reg : Reg) (rm : RM)
  /-- `PSUBSB xmm, xmm/m128`, `66 0F E8 /r`, 66-RM (SSE2, 46_sse2_int128_ext.md rule R546). -/
  | psubsbXmm (reg : Reg) (rm : RM)
  /-- `PSUBSW xmm, xmm/m128`, `66 0F E9 /r`, 66-RM (SSE2, 46_sse2_int128_ext.md rule R547). -/
  | psubswXmm (reg : Reg) (rm : RM)
  /-- `PSUBUSB xmm, xmm/m128`, `66 0F D8 /r`, 66-RM (SSE2, 46_sse2_int128_ext.md rule R548). -/
  | psubusbXmm (reg : Reg) (rm : RM)
  /-- `PSUBUSW xmm, xmm/m128`, `66 0F D9 /r`, 66-RM (SSE2, 46_sse2_int128_ext.md rule R549). -/
  | psubuswXmm (reg : Reg) (rm : RM)
  /-- `PMULLW xmm, xmm/m128`, `66 0F D5 /r`, 66-RM (SSE2, 46_sse2_int128_ext.md rule R550). -/
  | pmullwXmm (reg : Reg) (rm : RM)
  /-- `PMULHW xmm, xmm/m128`, `66 0F E5 /r`, 66-RM (SSE2, 46_sse2_int128_ext.md rule R551). -/
  | pmulhwXmm (reg : Reg) (rm : RM)
  /-- `PMADDWD xmm, xmm/m128`, `66 0F F5 /r`, 66-RM (SSE2, 46_sse2_int128_ext.md rule R552). -/
  | pmaddwdXmm (reg : Reg) (rm : RM)
  /-- `PCMPEQB xmm, xmm/m128`, `66 0F 74 /r`, 66-RM (SSE2, 46_sse2_int128_ext.md rule R553). -/
  | pcmpeqbXmm (reg : Reg) (rm : RM)
  /-- `PCMPEQW xmm, xmm/m128`, `66 0F 75 /r`, 66-RM (SSE2, 46_sse2_int128_ext.md rule R554). -/
  | pcmpeqwXmm (reg : Reg) (rm : RM)
  /-- `PCMPEQD xmm, xmm/m128`, `66 0F 76 /r`, 66-RM (SSE2, 46_sse2_int128_ext.md rule R555). -/
  | pcmpeqdXmm (reg : Reg) (rm : RM)
  /-- `PCMPGTB xmm, xmm/m128`, `66 0F 64 /r`, 66-RM (SSE2, 46_sse2_int128_ext.md rule R556). -/
  | pcmpgtbXmm (reg : Reg) (rm : RM)
  /-- `PCMPGTW xmm, xmm/m128`, `66 0F 65 /r`, 66-RM (SSE2, 46_sse2_int128_ext.md rule R557). -/
  | pcmpgtwXmm (reg : Reg) (rm : RM)
  /-- `PCMPGTD xmm, xmm/m128`, `66 0F 66 /r`, 66-RM (SSE2, 46_sse2_int128_ext.md rule R558). -/
  | pcmpgtdXmm (reg : Reg) (rm : RM)
  /-- `PACKSSWB xmm, xmm/m128`, `66 0F 63 /r`, 66-RM (SSE2, 46_sse2_int128_ext_pack_logic_shift.md rule R559). -/
  | packsswbXmm (reg : Reg) (rm : RM)
  /-- `PACKSSDW xmm, xmm/m128`, `66 0F 6B /r`, 66-RM (SSE2, 46_sse2_int128_ext_pack_logic_shift.md rule R560). -/
  | packssdwXmm (reg : Reg) (rm : RM)
  /-- `PACKUSWB xmm, xmm/m128`, `66 0F 67 /r`, 66-RM (SSE2, 46_sse2_int128_ext_pack_logic_shift.md rule R561). -/
  | packuswbXmm (reg : Reg) (rm : RM)
  /-- `PUNPCKHBW xmm, xmm/m128`, `66 0F 68 /r`, 66-RM (SSE2, 46_sse2_int128_ext_pack_logic_shift.md rule R562). -/
  | punpckhbwXmm (reg : Reg) (rm : RM)
  /-- `PUNPCKHWD xmm, xmm/m128`, `66 0F 69 /r`, 66-RM (SSE2, 46_sse2_int128_ext_pack_logic_shift.md rule R563). -/
  | punpckhwdXmm (reg : Reg) (rm : RM)
  /-- `PUNPCKHDQ xmm, xmm/m128`, `66 0F 6A /r`, 66-RM (SSE2, 46_sse2_int128_ext_pack_logic_shift.md rule R564). -/
  | punpckhdqXmm (reg : Reg) (rm : RM)
  /-- `PUNPCKLBW xmm, xmm/m128`, `66 0F 60 /r`, 66-RM (SSE2, 46_sse2_int128_ext_pack_logic_shift.md rule R565). -/
  | punpcklbwXmm (reg : Reg) (rm : RM)
  /-- `PUNPCKLWD xmm, xmm/m128`, `66 0F 61 /r`, 66-RM (SSE2, 46_sse2_int128_ext_pack_logic_shift.md rule R566). -/
  | punpcklwdXmm (reg : Reg) (rm : RM)
  /-- `PUNPCKLDQ xmm, xmm/m128`, `66 0F 62 /r`, 66-RM (SSE2, 46_sse2_int128_ext_pack_logic_shift.md rule R567). -/
  | punpckldqXmm (reg : Reg) (rm : RM)
  /-- `PAND xmm, xmm/m128`, `66 0F DB /r`, 66-RM (SSE2, 46_sse2_int128_ext_pack_logic_shift.md rule R568). -/
  | pandXmm (reg : Reg) (rm : RM)
  /-- `PANDN xmm, xmm/m128`, `66 0F DF /r`, 66-RM (SSE2, 46_sse2_int128_ext_pack_logic_shift.md rule R569). -/
  | pandnXmm (reg : Reg) (rm : RM)
  /-- `POR xmm, xmm/m128`, `66 0F EB /r`, 66-RM (SSE2, 46_sse2_int128_ext_pack_logic_shift.md rule R570). -/
  | porXmm (reg : Reg) (rm : RM)
  /-- `PXOR xmm, xmm/m128`, `66 0F EF /r`, 66-RM (SSE2, 46_sse2_int128_ext_pack_logic_shift.md rule R571). -/
  | pxorXmm (reg : Reg) (rm : RM)
  /-- `PSLLW xmm, xmm/m128`, `66 0F F1 /r`, 66-RM (SSE2, 46_sse2_int128_ext_pack_logic_shift.md rule R572); `PSLLW xmm, imm8`, `66 0F 71 /6 ib`, 66-MI (SSE2, 46_sse2_int128_ext_pack_logic_shift.md rule R573). -/
  | psllwXmm (dst : Reg) (count : Count)
  /-- `PSLLD xmm, xmm/m128`, `66 0F F2 /r`, 66-RM (SSE2, 46_sse2_int128_ext_pack_logic_shift.md rule R574); `PSLLD xmm, imm8`, `66 0F 72 /6 ib`, 66-MI (SSE2, 46_sse2_int128_ext_pack_logic_shift.md rule R575). -/
  | pslldXmm (dst : Reg) (count : Count)
  /-- `PSLLQ xmm, xmm/m128`, `66 0F F3 /r`, 66-RM (SSE2, 46_sse2_int128_ext_pack_logic_shift.md rule R576); `PSLLQ xmm, imm8`, `66 0F 73 /6 ib`, 66-MI (SSE2, 46_sse2_int128_ext_pack_logic_shift.md rule R577). -/
  | psllqXmm (dst : Reg) (count : Count)
  /-- `PSRLW xmm, xmm/m128`, `66 0F D1 /r`, 66-RM (SSE2, 46_sse2_int128_ext_pack_logic_shift.md rule R578); `PSRLW xmm, imm8`, `66 0F 71 /2 ib`, 66-MI (SSE2, 46_sse2_int128_ext_pack_logic_shift.md rule R579). -/
  | psrlwXmm (dst : Reg) (count : Count)
  /-- `PSRLD xmm, xmm/m128`, `66 0F D2 /r`, 66-RM (SSE2, 46_sse2_int128_ext_pack_logic_shift.md rule R580); `PSRLD xmm, imm8`, `66 0F 72 /2 ib`, 66-MI (SSE2, 46_sse2_int128_ext_pack_logic_shift.md rule R581). -/
  | psrldXmm (dst : Reg) (count : Count)
  /-- `PSRLQ xmm, xmm/m128`, `66 0F D3 /r`, 66-RM (SSE2, 46_sse2_int128_ext_pack_logic_shift.md rule R582); `PSRLQ xmm, imm8`, `66 0F 73 /2 ib`, 66-MI (SSE2, 46_sse2_int128_ext_pack_logic_shift.md rule R583). -/
  | psrlqXmm (dst : Reg) (count : Count)
  /-- `PSRAW xmm, xmm/m128`, `66 0F E1 /r`, 66-RM (SSE2, 46_sse2_int128_ext_pack_logic_shift.md rule R584); `PSRAW xmm, imm8`, `66 0F 71 /4 ib`, 66-MI (SSE2, 46_sse2_int128_ext_pack_logic_shift.md rule R585). -/
  | psrawXmm (dst : Reg) (count : Count)
  /-- `PSRAD xmm, xmm/m128`, `66 0F E2 /r`, 66-RM (SSE2, 46_sse2_int128_ext_pack_logic_shift.md rule R586); `PSRAD xmm, imm8`, `66 0F 72 /4 ib`, 66-MI (SSE2, 46_sse2_int128_ext_pack_logic_shift.md rule R587). -/
  | psradXmm (dst : Reg) (count : Count)
  /-- `PAVGB xmm, xmm/m128`, `66 0F E0 /r`, 66-RM (SSE2, 47_sse2_int128_new.md rule R611). -/
  | pavgbXmm (reg : Reg) (rm : RM)
  /-- `PAVGW xmm, xmm/m128`, `66 0F E3 /r`, 66-RM (SSE2, 47_sse2_int128_new.md rule R612). -/
  | pavgwXmm (reg : Reg) (rm : RM)
  /-- `PEXTRW r32, xmm, imm8`, `66 0F C5 /r ib`, 66-RMI (SSE2, 47_sse2_int128_new.md rule R613). -/
  | pextrwXmm (reg rm : Reg) (imm : Imm8)
  /-- `PINSRW xmm, r32/m16, imm8`, `66 0F C4 /r ib`, 66-RMI (SSE2, 47_sse2_int128_new.md rule R614). -/
  | pinsrwXmm (reg : Reg) (rm : RM) (imm : Imm8)
  /-- `PMAXSW xmm, xmm/m128`, `66 0F EE /r`, 66-RM (SSE2, 47_sse2_int128_new.md rule R615). -/
  | pmaxswXmm (reg : Reg) (rm : RM)
  /-- `PMAXUB xmm, xmm/m128`, `66 0F DE /r`, 66-RM (SSE2, 47_sse2_int128_new.md rule R616). -/
  | pmaxubXmm (reg : Reg) (rm : RM)
  /-- `PMINSW xmm, xmm/m128`, `66 0F EA /r`, 66-RM (SSE2, 47_sse2_int128_new.md rule R617). -/
  | pminswXmm (reg : Reg) (rm : RM)
  /-- `PMINUB xmm, xmm/m128`, `66 0F DA /r`, 66-RM (SSE2, 47_sse2_int128_new.md rule R618). -/
  | pminubXmm (reg : Reg) (rm : RM)
  /-- `PMOVMSKB r32, xmm`, `66 0F D7 /r`, 66-RM (SSE2, 47_sse2_int128_new.md rule R619). -/
  | pmovmskbXmm (reg rm : Reg)
  /-- `PMULHUW xmm, xmm/m128`, `66 0F E4 /r`, 66-RM (SSE2, 47_sse2_int128_new.md rule R620). -/
  | pmulhuwXmm (reg : Reg) (rm : RM)
  /-- `PSADBW xmm, xmm/m128`, `66 0F F6 /r`, 66-RM (SSE2, 47_sse2_int128_new.md rule R621). -/
  | psadbwXmm (reg : Reg) (rm : RM)
  /-- `MOVDQA xmm, xmm/m128`, `66 0F 6F /r`, 66-RM (SSE2, 47_sse2_int128_new.md rule R622); `MOVDQA xmm/m128, xmm`, `66 0F 7F /r`, 66-MR (SSE2, 47_sse2_int128_new.md rule R623). -/
  | movdqa (dir : Dir) (reg : Reg) (rm : RM)
  /-- `MOVDQU xmm, xmm/m128`, `F3 0F 6F /r`, F3-RM (SSE2, 47_sse2_int128_new.md rule R624); `MOVDQU xmm/m128, xmm`, `F3 0F 7F /r`, F3-MR (SSE2, 47_sse2_int128_new.md rule R625). -/
  | movdqu (dir : Dir) (reg : Reg) (rm : RM)
  /-- `MOVDQ2Q mm, xmm`, `F2 0F D6 /r`, F2-RM (SSE2, 47_sse2_int128_new.md rule R626). -/
  | movdq2q (reg rm : Reg)
  /-- `MOVQ2DQ xmm, mm`, `F3 0F D6 /r`, F3-RM (SSE2, 47_sse2_int128_new.md rule R627). -/
  | movq2dq (reg rm : Reg)
  /-- `PADDQ mm, mm/m64`, `0F D4 /r`, NP-RM (SSE2, 47_sse2_int128_new.md rule R628). -/
  | paddqMm (reg : Reg) (rm : RM)
  /-- `PADDQ xmm, xmm/m128`, `66 0F D4 /r`, 66-RM (SSE2, 47_sse2_int128_new.md rule R629). -/
  | paddqXmm (reg : Reg) (rm : RM)
  /-- `PSUBQ mm, mm/m64`, `0F FB /r`, NP-RM (SSE2, 47_sse2_int128_new.md rule R630). -/
  | psubqMm (reg : Reg) (rm : RM)
  /-- `PSUBQ xmm, xmm/m128`, `66 0F FB /r`, 66-RM (SSE2, 47_sse2_int128_new.md rule R631). -/
  | psubqXmm (reg : Reg) (rm : RM)
  /-- `PMULUDQ mm, mm/m64`, `0F F4 /r`, NP-RM (SSE2, 47_sse2_int128_new.md rule R632). -/
  | pmuludqMm (reg : Reg) (rm : RM)
  /-- `PMULUDQ xmm, xmm/m128`, `66 0F F4 /r`, 66-RM (SSE2, 47_sse2_int128_new.md rule R633). -/
  | pmuludqXmm (reg : Reg) (rm : RM)
  /-- `PSHUFD xmm, xmm/m128, imm8`, `66 0F 70 /r ib`, 66-RMI (SSE2, 47_sse2_int128_new.md rule R634). -/
  | pshufd (reg : Reg) (rm : RM) (imm : Imm8)
  /-- `PSHUFHW xmm, xmm/m128, imm8`, `F3 0F 70 /r ib`, F3-RMI (SSE2, 47_sse2_int128_new.md rule R635). -/
  | pshufhw (reg : Reg) (rm : RM) (imm : Imm8)
  /-- `PSHUFLW xmm, xmm/m128, imm8`, `F2 0F 70 /r ib`, F2-RMI (SSE2, 47_sse2_int128_new.md rule R636). -/
  | pshuflw (reg : Reg) (rm : RM) (imm : Imm8)
  /-- `PSLLDQ xmm, imm8`, `66 0F 73 /7 ib`, 66-MI (SSE2, 47_sse2_int128_new.md rule R637). -/
  | pslldq (rm : Reg) (imm : Imm8)
  /-- `PSRLDQ xmm, imm8`, `66 0F 73 /3 ib`, 66-MI (SSE2, 47_sse2_int128_new.md rule R638). -/
  | psrldq (rm : Reg) (imm : Imm8)
  /-- `PUNPCKHQDQ xmm, xmm/m128`, `66 0F 6D /r`, 66-RM (SSE2, 47_sse2_int128_new.md rule R639). -/
  | punpckhqdqXmm (reg : Reg) (rm : RM)
  /-- `PUNPCKLQDQ xmm, xmm/m128`, `66 0F 6C /r`, 66-RM (SSE2, 47_sse2_int128_new.md rule R640). -/
  | punpcklqdqXmm (reg : Reg) (rm : RM)
  /-- `CLFLUSH m8`, `0F AE /7`, NP-M (SSE2, 48_sse2_cache.md rule R649). -/
  | clflush (m : MemOp)
  /-- `MOVNTPD m128, xmm`, `66 0F 2B /r`, 66-MR (SSE2, 48_sse2_cache.md rule R652). -/
  | movntpd (reg : Reg) (m : MemOp)
  /-- `MOVNTDQ m128, xmm`, `66 0F E7 /r`, 66-MR (SSE2, 48_sse2_cache.md rule R653). -/
  | movntdq (reg : Reg) (m : MemOp)
  /-- `MASKMOVDQU xmm1, xmm2`, `66 0F F7 /r`, 66-RM (SSE2, 48_sse2_cache.md rule R654). -/
  | maskmovdqu (reg rm : Reg) (seg : Seg)
  /-- `MOVNTI m32, r32`, `0F C3 /r`, NP-MR (SSE2, 48_sse2_cache.md rule R655). -/
  | movnti (reg : Reg) (m : MemOp)
  /-- `EMMS (none)`, `0F 77`, NP-ZO (MMX, 40_mmx_pack_logic_shift.md rule R259). -/
  | emms
  /-- `SFENCE (none)`, `0F AE /7`, NP-FIX (SSE, 43_sse_int_state_cache.md rule R431). -/
  | sfence
  /-- `LFENCE (none)`, `0F AE /5`, NP-FIX (SSE2, 48_sse2_cache.md rule R650). -/
  | lfence
  /-- `MFENCE (none)`, `0F AE /6`, NP-FIX (SSE2, 48_sse2_cache.md rule R651). -/
  | mfence
  /-- `PAUSE (none)`, `F3 90`, F3-ZO (SSE2, 48_sse2_cache.md rule R656). -/
  | pause
deriving DecidableEq, Repr

end Sys2Proof
end

