-- ==== Sys2Proof/Machine/State.lean ====
section
/-! DEFINITION. The machine's state as plain data, the reasons a step can stop, and the state after reset. -/

namespace Sys2Proof.Machine

/-- The eight exceptions an in-scope instruction can raise (60_exceptions.md rule R660). -/
inductive Exn where
  | ud | nm | ss | gp | pf | mf | ac | xm
deriving DecidableEq, Repr

/-- The IA-32 vector number (60_exceptions.md rule R660). -/
def Exn.vector : Exn → Nat
  | .ud => 6
  | .nm => 7
  | .ss => 12
  | .gp => 13
  | .pf => 14
  | .mf => 16
  | .ac => 17
  | .xm => 19

/-- The outcome `Fault(vector, error code or none, eip, fault address for #PF)` of 60_exceptions.md rule R662. -/
structure Raised where
  exn       : Exn
  errorCode : Option Dword
  eip       : Dword
  faultAddr : Option Dword
deriving DecidableEq, Repr

/-- One entry of the store buffer `SB(p)` (20_memory.md rule R96): a pending store of bytes from an address upwards,
ordinary or non-temporal, or a store-fence marker. -/
inductive SbEntry where
  | store (nonTemporal : Bool) (addr : Nat) (bytes : List Byte)
  | sf
deriving DecidableEq, Repr

/-- A segment register's hidden part (10_state.md rule R46) and the rights that 60_exceptions.md rule R660 names. -/
structure Segment where
  base     : Dword
  limit    : Dword
  readable : Bool
  writable : Bool
deriving DecidableEq, Repr, Inhabited

/-- The six segment registers (10_state.md rule R46). -/
structure Segments where
  es : Segment
  cs : Segment
  ss : Segment
  ds : Segment
  fs : Segment
  gs : Segment
deriving DecidableEq, Repr, Inhabited

/-- The access kinds of `TRANSLATE` (20_memory.md rule R94). -/
inductive AccessKind where
  | read | write | fetch
deriving DecidableEq, Repr

/-- Pages `lo` to `hi` inclusive, by number (4096 bytes each), and what the paging part of the parameter `TRANSLATE` says of
them as plain data (20_memory.md rule R94; log 18): page `lo` lies in physical page `frame` and the others follow it; whether
they are present; which access kinds each privilege level may make. -/
structure PageRange where
  lo      : Nat
  hi      : Nat
  frame   : Nat
  present : Bool
  rights  : List (BitVec 2 × AccessKind)
deriving DecidableEq, Repr

/-- The memory types of 00_scope.md rule R9; the spec has rules for the first alone (20_memory.md rule R92). -/
inductive MemType where
  | writeBack | uncacheable | writeCombining | other
deriving DecidableEq, Repr

/-- Physical addresses `lo` to `hi` inclusive and their memory type: the parameter `MEMTYPE` as plain data (log 9). -/
structure TypedRange where
  lo   : Nat
  hi   : Nat
  type : MemType
deriving DecidableEq, Repr

/-- The parameter `DELIVER` (60_exceptions.md rule R662): the run ends with the fault, which is the spec's default, or the
host's delivery mechanism goes on in a handler (log 5). -/
inductive Deliver where
  | endRun | host
deriving DecidableEq, Repr

/-- The parameters of 00_scope.md rule R9 that are plain data; no instruction writes them (log 1). Where no page range holds
an address, paging allows everything and maps it to itself; where no typed range does, memory is write-back. -/
structure Platform where
  ext         : Ext
  daz         : Bool
  clflushLine : Nat
  pages       : List PageRange
  memTypes    : List TypedRange
  deliver     : Deliver
deriving DecidableEq, Repr

/-- The integer core, which the host's delivery of an exception rewrites (60_exceptions.md rule R662). -/
structure HostCore where
  gpr    : Vector Dword 8
  eip    : Dword
  eflags : Dword
  cpl    : BitVec 2
  segs   : Segments
deriving DecidableEq, Repr, Inhabited

/-- Everything the spec gives the machine (INVENTORY.md, State), and the model's own `oracle` and `stored`. -/
structure State where
  /-- `r32[0..7]` (R30). -/
  gpr    : Vector Dword 8
  /-- The program counter, an offset in the code segment (R31). -/
  eip    : Dword
  /-- R32. -/
  eflags : Dword
  /-- R42. -/
  cr0    : Dword
  /-- The linear address of the last page fault (20_memory.md R83). -/
  cr2    : Dword
  /-- R43. -/
  cr4    : Dword
  /-- The privilege level (R45). -/
  cpl    : BitVec 2
  /-- R46. -/
  segs   : Segments
  /-- The physical x87 registers R0 to R7; `mm[i]` is bits 63:0 of `fpr[i]` (R33, R34). -/
  fpr    : Vector Fpr 8
  /-- x87 control word, opaque (R33, R426). -/
  fcw    : BitVec 16
  /-- x87 status word: `top` in bits 13:11, ES in bit 7 (R33, R50, R426). -/
  fsw    : BitVec 16
  /-- x87 tag word (R33). -/
  ftw    : BitVec 16
  /-- Last x87 opcode, opaque (R426). -/
  fop    : BitVec 11
  /-- x87 instruction pointer offset, opaque (R426). -/
  fip    : Dword
  /-- x87 instruction pointer selector, opaque (R426). -/
  fcs    : BitVec 16
  /-- x87 operand pointer offset, opaque (R426). -/
  fdp    : Dword
  /-- x87 operand pointer selector, opaque (R426). -/
  fds    : BitVec 16
  /-- `xmm[0..7]` (R37). -/
  xmm    : Vector Xmm 8
  /-- R39, R40. -/
  mxcsr  : Dword
  /-- Shared memory, in canonical form (R47; `Machine.Memory.wf`). -/
  mem    : List Host.Cell
  /-- The store buffer `SB(p)`, oldest entry first (R49, 20_memory.md R96). -/
  sb     : List SbEntry
  /-- The exception taken, if one has been (60_exceptions.md R662; log 5). -/
  raised : Option Raised
  /-- Parameters (00_scope.md R9; log 1). -/
  plat   : Platform
  /-- The model's own: the counter the free values of Config are applied to (logs 6, 19). -/
  oracle : Nat
  /-- The model's own: the physical ranges, start and length, that stores of this run wrote (20_memory.md R103; log 13). -/
  stored : List (Nat × Nat)
deriving DecidableEq, Repr

/-- Why the run ended. -/
inductive Fault where
  /-- Raised by `step` in a state whose `raised` is some exception, with `DELIVER` at its default, "the run ends with the
  fault as its result" (60_exceptions.md R662, 92_eei_decisions.md D9). Safe: the hardware goes on in a handler the
  spec does not describe. -/
  | exception (r : Raised)
deriving DecidableEq, Repr

/-- Why the model gives a step no outcome. Every one is safe: nothing is claimed of the hardware there. -/
inductive Refusal where
  /-- Raised by `exec`'s arm of an instruction that has no meaning yet. Safe. -/
  | notModelled (mnemonic : String)
  /-- Raised by `step` when the bytes at `eip` denote no row of the opcode table (30_encoding.md R137). Safe. -/
  | unknownOpcode
  /-- Raised by `step`: two or more of 66, F2, F3, or one of them on an opcode with no row for that class
  (30_encoding.md R138 (b), (c)). Safe. -/
  | mandatoryPrefixMisuse
  /-- Raised by `step`: a repeated prefix byte or two segment overrides (30_encoding.md R138 (d)). Safe. -/
  | repeatedPrefix
  /-- Raised by `step`: a 66, F2 or F3 form of a later extension whose opcode byte exists at the current EXT
  (30_encoding.md R139 (b)). Safe. -/
  | laterExtensionForm
  /-- Raised by `step`: prefix 67 with a memory operand (30_encoding.md R143). Safe. -/
  | addressSize16
  /-- Raised by `step`: `0F 18` with `mod = 3` or `/4` to `/7` (30_encoding.md R135). Safe. -/
  | reservedHint
  /-- Raised by `step`: a fence encoded with `rm` not 0 (30_encoding.md R134). Safe. -/
  | reservedFence
  /-- Raised by `step`: a compare with `imm8[7:3]` not zero (30_encoding.md R131). Safe. -/
  | reservedPredicate
  /-- Raised by a memory operand, or by the fetch, that runs past address 2^32 (20_memory.md R83 step 5, R95;
  10_state.md R31). Safe. -/
  | addressWrap
  /-- Raised by a memory operand, or by the fetch, that passes every check and reaches a byte that is not write-back memory
  (20_memory.md R92, 92_eei_decisions.md D13, 93_implementation_defined.md U23). Safe. -/
  | otherMemoryType
  /-- Raised by the fetch of a byte that a store of this run wrote (20_memory.md R103). Safe. -/
  | fetchOfStoredByte
deriving DecidableEq, Repr

/-- A real-mode segment after reset (10_state.md rule R52; rights: log 17). -/
def Segment.atReset (base : Dword) : Segment :=
  { base := base, limit := 0x0000FFFF#32, readable := true, writable := true }

/-- A flat segment (10_state.md rule R46, 92_eei_decisions.md D5). -/
def Segment.flat : Segment :=
  { base := 0#32, limit := 0xFFFFFFFF#32, readable := true, writable := true }

/-- The parameters' values at reset (logs 1, 5, 9, 18). -/
def Platform.atReset : Platform :=
  { ext := .sse2, daz := true, clflushLine := 64, pages := [], memTypes := [], deliver := .endRun }

/-- The machine right after power-up or RESET (10_state.md rule R52; where that table gives no value, logs 1 to 4, 17). -/
def State.reset : State where
  gpr    := Vector.replicate 8 0#32
  eip    := 0x0000FFF0#32
  eflags := 0x00000002#32
  cr0    := 0x60000010#32
  cr2    := 0#32
  cr4    := 0#32
  cpl    := 0#2
  segs   :=
    { es := Segment.atReset 0#32, cs := Segment.atReset 0xFFFF0000#32, ss := Segment.atReset 0#32,
      ds := Segment.atReset 0#32, fs := Segment.atReset 0#32, gs := Segment.atReset 0#32 }
  fpr    := Vector.replicate 8 0#80
  fcw    := 0x0040#16
  fsw    := 0#16
  ftw    := 0x5555#16
  fop    := 0#11
  fip    := 0#32
  fcs    := 0#16
  fdp    := 0#32
  fds    := 0#16
  xmm    := Vector.replicate 8 0#128
  mxcsr  := 0x00001F80#32
  mem    := []
  sb     := []
  raised := none
  plat   := Platform.atReset
  oracle := 0
  stored := []

/-- The machine after the INIT signal (10_state.md rule R52, third column; 70_reset_and_hazards.md rule R721): the
integer core and the segments as after RESET, cr0's CD (bit 30) and NW (bit 29) kept, the store buffer emptied; the
x87, MMX and XMM state, MXCSR and memory unchanged. That CR2, which R52 and R721 do not name for INIT, is unchanged too
is a DESIGN CHOICE, log 34. -/
def State.init (s : State) : State :=
  { s with
    gpr := State.reset.gpr, eip := State.reset.eip, eflags := State.reset.eflags,
    cr0 := (State.reset.cr0 &&& ~~~0x60000000#32) ||| (s.cr0 &&& 0x60000000#32),
    cr4 := State.reset.cr4, cpl := State.reset.cpl, segs := State.reset.segs, sb := [], raised := none }

/-- The launch state of 92_eei_decisions.md D12 (70_reset_and_hazards.md rule R723), for a program at `eip`: what host
software has set up when it runs in-scope code. DESIGN CHOICE, log 35, where D12 names no value: `cr0` has PE and ET alone,
so CD and NW, which are 1 after reset, are 0, as software leaves them; the rest is as after reset. -/
def State.launch (eip : Dword) : State :=
  { State.reset with
    eip := eip, cr0 := 0x00000011#32, cr4 := 0x00000600#32, cpl := 3#2, ftw := 0xFFFF#16,
    segs := { es := .flat, cs := .flat, ss := .flat, ds := .flat, fs := .flat, gs := .flat } }

end Sys2Proof.Machine
end

