-- ==== Sys2Proof/Config.lean ====
section
/-! DEFINITION. What the spec leaves free: constants without a body, so that nothing can be proved of their values.
The parameters that are plain data (EXT, MXCSR_MASK, CLFLUSH_LINE, TRANSLATE, MEMTYPE, which DELIVER) stand in
`Machine.Platform`. -/

namespace Sys2Proof

/-- The raw approximation behind `RCP32` (41_fp_numerics.md rule R293): any function of the operand bits. The value an
instruction delivers is held to the rule's special cases and error bound by `Machine.rcp32` (log 20). -/
opaque Config.rcpRaw : Dword → Dword

/-- The raw approximation behind `RSQRT32` (41_fp_numerics.md rule R293; log 20). -/
opaque Config.rsqrtRaw : Dword → Dword

/-- The byte FXSAVE leaves at a reserved place of its image: the free value of 43_sse_int_state_cache.md rule R426
(93_implementation_defined.md U8), by the state's counter and the place in the image (log 19). -/
opaque Config.reservedByte : Nat → Nat → Byte

/-- Which entries of the store buffer drain before a step, by position, one after another: the free choice of
20_memory.md rule R96 clause (c), by the state's counter (log 6). -/
opaque Config.drainChoice : Nat → List Nat

/-- What the host's delivery of an exception does, where `DELIVER` is not its default: the integer core in which the handler
starts, and the bytes pushed, by linear address. 60_exceptions.md rule R662 describes none of the tables it reads, so it may
depend on all of the state, whose `raised` is the exception (log 5). -/
opaque Config.deliver : Machine.State → Machine.HostCore × List (Nat × Byte)

end Sys2Proof
end

