-- ==== Sys2Proof/Machine/Flags.lean ====
section
/-! DEFINITION. The status and control bits the instructions read and write: EFLAGS, MXCSR, CR0, CR4 and the x87
status and tag words (10_state.md rules R32, R33, R35, R39 to R43, R50). -/

namespace Sys2Proof.Machine

/-! ## Control bits -/

/-- `cr0.EM`, bit 2 (R42). -/
def State.em (s : State) : Bool := s.cr0.getLsbD 2

/-- `cr0.TS`, bit 3 (R42). -/
def State.ts (s : State) : Bool := s.cr0.getLsbD 3

/-- `cr0.AM`, bit 18 (R42). -/
def State.am (s : State) : Bool := s.cr0.getLsbD 18

/-- `cr4.OSFXSR`, bit 9 (R43). -/
def State.osfxsr (s : State) : Bool := s.cr4.getLsbD 9

/-- `cr4.OSXMMEXCPT`, bit 10 (R43). -/
def State.osxmmexcpt (s : State) : Bool := s.cr4.getLsbD 10

/-- `fsw.ES`, bit 7: an x87 exception is pending (R50). -/
def State.es (s : State) : Bool := s.fsw.getLsbD 7

/-- `AC_ENABLED` (00_scope.md rule R9): CR0.AM, EFLAGS.AC (bit 18) and `cpl` 3. -/
def State.acEnabled (s : State) : Bool := s.am && s.eflags.getLsbD 18 && s.cpl == 3#2

/-! ## EFLAGS -/

/-- The four outcomes of a comparison (41_fp_numerics.md rule R289). -/
inductive Relation where
  | unordered | greater | less | equal
deriving DecidableEq, Repr

/-- ZF (6), PF (2) and CF (0) of a comparison, in their places (R289). -/
def Relation.flags : Relation → Dword
  | .unordered => 0x45#32
  | .greater => 0#32
  | .less => 0x01#32
  | .equal => 0x40#32

/-- The six status flags: OF (11), SF (7), ZF (6), AF (4), PF (2), CF (0) (R32). -/
def statusFlags : Dword := 0x8D5#32

/-- EFLAGS after a compare: ZF, PF, CF from the outcome, OF, SF, AF cleared, every other bit kept (R289). -/
def compareFlags (eflags : Dword) (r : Relation) : Dword := (eflags &&& ~~~statusFlags) ||| r.flags

/-! ## MXCSR -/

/-- `RC`, bits 14:13 (R40). -/
def mxRc (mx : Dword) : BitVec 2 := mx.extractLsb' 13 2

/-- `FZ`, bit 15 (R40). -/
def mxFz (mx : Dword) : Bool := mx.getLsbD 15

/-- `DAZ`, bit 6 (R40). -/
def mxDaz (mx : Dword) : Bool := mx.getLsbD 6

/-- `OM`, bit 10 (R40). -/
def mxOm (mx : Dword) : Bool := mx.getLsbD 10

/-- `UM`, bit 11 (R40). -/
def mxUm (mx : Dword) : Bool := mx.getLsbD 11

/-- The six mask bits, 12:7, in the order of the flag bits (R40). -/
def mxMasks (mx : Dword) : BitVec 6 := mx.extractLsb' 7 6

/-- MXCSR with conditions ORed into its flag bits, 5:0 (R40). -/
def mxOr (mx : Dword) (conditions : BitVec 6) : Dword := mx ||| conditions.setWidth 32

/-- `MXCSR_MASK` (00_scope.md rule R9, R41; log 1). -/
def State.mxcsrMask (s : State) : Dword := if s.plat.daz then 0x0000FFFF#32 else 0x0000FFBF#32

/-- Does a value have a 1 in a bit of MXCSR that is reserved (R41)? -/
def State.mxcsrReserved (s : State) (v : Dword) : Bool := v &&& ~~~s.mxcsrMask != 0#32

/-! ## The x87 status and tag words -/

/-- `top`, bits 13:11 of the status word (R33). -/
def fswTop (fsw : BitVec 16) : BitVec 3 := fsw.extractLsb' 11 3

/-- The status word with `top` zero. -/
def fswTop0 (fsw : BitVec 16) : BitVec 16 := fsw &&& 0xC7FF#16

/-- The tag of physical register `i` (R33). -/
def tagOf (ftw : BitVec 16) (i : Nat) : BitVec 2 := ftw.extractLsb' (2 * i) 2

/-- An MMX-register instruction's side effect on the tags and `top` (R35). -/
def State.touchX87 (s : State) : State := { s with fsw := fswTop0 s.fsw, ftw := 0#16 }

/-- EMMS's effect: every tag empty, `top` zero (R35, 40_mmx_pack_logic_shift.md rule R259). -/
def State.emptyX87 (s : State) : State := { s with fsw := fswTop0 s.fsw, ftw := 0xFFFF#16 }

end Sys2Proof.Machine
end

