-- ==== Sys2Proof/Machine/Float.lean ====
section
/-! DEFINITION. Floating-point arithmetic on one lane (41_fp_numerics.md rules R270 to R293), by exact arithmetic on
integers. A finite magnitude is a whole number of units, a unit being the format's smallest denormal; a real result
before rounding is a quotient of two natural numbers, in units. -/

namespace Sys2Proof.Machine

/-! ## Formats and classes (R270, R271) -/

/-- A format of `n` bits: the widths of its exponent and fraction. -/
structure Fmt (n : Nat) where
  w : Nat
  t : Nat

/-- Single precision (R270). -/
def single : Fmt 32 := ⟨8, 23⟩

/-- Double precision (R270). -/
def double : Fmt 64 := ⟨11, 52⟩

/-- `E`, the largest biased exponent: infinities and NaNs (R270). -/
def Fmt.top {n : Nat} (f : Fmt n) : Nat := 2 ^ f.w - 1

/-- How many powers of two the unit lies below 1: `bias - 1 + t` (R270). -/
def Fmt.scale {n : Nat} (f : Fmt n) : Nat := 2 ^ (f.w - 1) - 2 + f.t

/-- The biased exponent. -/
def Fmt.expo {n : Nat} (f : Fmt n) (x : BitVec n) : Nat := x.toNat / 2 ^ f.t % 2 ^ f.w

/-- The fraction. -/
def Fmt.frac {n : Nat} (f : Fmt n) (x : BitVec n) : Nat := x.toNat % 2 ^ f.t

/-- Is the sign bit set? -/
def Fmt.neg {n : Nat} (_ : Fmt n) (x : BitVec n) : Bool := x.msb

/-- A NaN, quiet or signalling. -/
def Fmt.isNan {n : Nat} (f : Fmt n) (x : BitVec n) : Bool := f.expo x == f.top && f.frac x != 0

/-- A signalling NaN: the most significant fraction bit is 0. -/
def Fmt.isSNan {n : Nat} (f : Fmt n) (x : BitVec n) : Bool := f.isNan x && !x.getLsbD (f.t - 1)

/-- An infinity. -/
def Fmt.isInf {n : Nat} (f : Fmt n) (x : BitVec n) : Bool := f.expo x == f.top && f.frac x == 0

/-- A zero. -/
def Fmt.isZero {n : Nat} (f : Fmt n) (x : BitVec n) : Bool := f.expo x == 0 && f.frac x == 0

/-- A denormal. -/
def Fmt.isDenormal {n : Nat} (f : Fmt n) (x : BitVec n) : Bool := f.expo x == 0 && f.frac x != 0

/-- The magnitude of a finite value, in units (R270). An infinity's pattern gives a number above every finite one. -/
def Fmt.units {n : Nat} (f : Fmt n) (x : BitVec n) : Nat :=
  if f.expo x = 0 then f.frac x else (2 ^ f.t + f.frac x) * 2 ^ (f.expo x - 1)

/-- A value in units, with its sign: the order of the format's numbers, infinities at the ends. -/
def Fmt.value {n : Nat} (f : Fmt n) (x : BitVec n) : Int := if f.neg x then -(f.units x : Int) else f.units x

/-- The largest finite magnitude, in units. -/
def Fmt.maxUnits {n : Nat} (f : Fmt n) : Nat := (2 ^ (f.t + 1) - 1) * 2 ^ (f.top - 2)

/-- The bit pattern with a sign and the other bits given as a number. -/
def Fmt.signed {n : Nat} (_ : Fmt n) (neg : Bool) (rest : Nat) : BitVec n :=
  BitVec.ofNat n ((if neg then 2 ^ (n - 1) else 0) + rest)

/-- A zero of a sign. -/
def Fmt.zero {n : Nat} (f : Fmt n) (neg : Bool) : BitVec n := f.signed neg 0

/-- An infinity of a sign. -/
def Fmt.inf {n : Nat} (f : Fmt n) (neg : Bool) : BitVec n := f.signed neg (f.top * 2 ^ f.t)

/-- The largest finite number of a sign. -/
def Fmt.maxFinite {n : Nat} (f : Fmt n) (neg : Bool) : BitVec n := f.signed neg (f.top * 2 ^ f.t - 1)

/-- The QNaN floating-point indefinite (R277). -/
def Fmt.indefinite {n : Nat} (f : Fmt n) : BitVec n := f.signed true (f.top * 2 ^ f.t + 2 ^ (f.t - 1))

/-- `quiet(x)`: the most significant fraction bit set (R275). -/
def Fmt.quiet {n : Nat} (f : Fmt n) (x : BitVec n) : BitVec n := x ||| BitVec.ofNat n (2 ^ (f.t - 1))

/-- The pattern of a magnitude that the format holds, given in units. -/
def Fmt.pack {n : Nat} (f : Fmt n) (neg : Bool) (u : Nat) : BitVec n :=
  let q := u.log2 - f.t
  f.signed neg (q * 2 ^ f.t + u / 2 ^ q)

/-! ## Conditions -/

/-- Invalid operation: MXCSR bit 0 (R274, 10_state.md rule R40). -/
def condI : BitVec 6 := 0x01#6
/-- Denormal operand: MXCSR bit 1. -/
def condD : BitVec 6 := 0x02#6
/-- Divide by zero: MXCSR bit 2. -/
def condZ : BitVec 6 := 0x04#6
/-- Overflow: MXCSR bit 3. -/
def condO : BitVec 6 := 0x08#6
/-- Underflow: MXCSR bit 4. -/
def condU : BitVec 6 := 0x10#6
/-- Precision: MXCSR bit 5. -/
def condP : BitVec 6 := 0x20#6

/-- A condition, if `b`. -/
def condIf (b : Bool) (c : BitVec 6) : BitVec 6 := if b then c else 0#6

/-- One lane's result and its detected set (R278). -/
structure Lane (n : Nat) where
  bits       : BitVec n
  conditions : BitVec 6
deriving DecidableEq, Repr

/-! ## Rounding (R273, R284 to R286) -/

/-- The quotient `num / den` rounded to a whole number, by the rounding control and the sign of the value. -/
def roundQuotient (rc : BitVec 2) (neg : Bool) (num den : Nat) : Nat :=
  let m := num / den
  let r := num % den
  let up : Bool :=
    match rc.toNat with
    | 0 => decide (den < 2 * r) || (decide (2 * r = den) && decide (m % 2 = 1))
    | 1 => neg && decide (r ≠ 0)
    | 2 => !neg && decide (r ≠ 0)
    | _ => false
  if up then m + 1 else m

/-- How many bits to drop so that `num / den` units keep `p = t + 1` significant bits; none of a denormal (R273). -/
def dropBits {n : Nat} (f : Fmt n) (num den : Nat) : Nat := (num / den).log2 - f.t

/-- `round(v, fmt, rc)` in units, with no bound above (R273). -/
def roundUnits {n : Nat} (f : Fmt n) (rc : BitVec 2) (neg : Bool) (num den : Nat) : Nat :=
  roundQuotient rc neg num (den * 2 ^ dropBits f num den) * 2 ^ dropBits f num den

/-- Tiny: rounded to `p` bits with an unbounded exponent, the magnitude is below the smallest normal (R285). Just below
the smallest normal, `2^t` units, such a rounding keeps half units. -/
def tiny {n : Nat} (f : Fmt n) (rc : BitVec 2) (neg : Bool) (num den : Nat) : Bool :=
  decide (num < den * 2 ^ f.t) && decide (roundQuotient rc neg (2 * num) den < 2 ^ (f.t + 1))

/-- The masked response to overflow (R284). -/
def overflowBits {n : Nat} (f : Fmt n) (rc : BitVec 2) (neg : Bool) : BitVec n :=
  match rc.toNat with
  | 0 => f.inf neg
  | 1 => if neg then f.inf true else f.maxFinite false
  | 2 => if neg then f.maxFinite true else f.inf false
  | _ => f.maxFinite neg

/-- A non-zero real result `num / den` units, rounded, with overflow, underflow and precision (R273, R284 to R286), and
the conditions already detected. -/
def deliver {n : Nat} (f : Fmt n) (mx : Dword) (neg : Bool) (num den : Nat) (c : BitVec 6) : Lane n :=
  let u := roundUnits f (mxRc mx) neg num den
  let inexact := decide (u * den ≠ num)
  if f.maxUnits < u then
    ⟨overflowBits f (mxRc mx) neg, c ||| condO ||| condIf (mxOm mx || inexact) condP⟩
  else if tiny f (mxRc mx) neg num den then
    if !mxUm mx then ⟨f.pack neg u, c ||| condU ||| condIf inexact condP⟩
    else if mxFz mx then ⟨f.zero neg, c ||| condU ||| condP⟩
    else ⟨f.pack neg u, c ||| condIf inexact (condU ||| condP)⟩
  else ⟨f.pack neg u, c ||| condIf inexact condP⟩

/-! ## Operands -/

/-- Denormals are zeros (R272). -/
def dazOperand {n : Nat} (f : Fmt n) (mx : Dword) (x : BitVec n) : BitVec n :=
  if mxDaz mx && f.isDenormal x then f.zero (f.neg x) else x

/-- The NaN result of two operands, if one is a NaN (R275). -/
def nanOf2 {n : Nat} (f : Fmt n) (a b : BitVec n) : Option (Lane n) :=
  let c := condIf (f.isSNan a || f.isSNan b) condI
  if f.isNan a then some ⟨f.quiet a, c⟩
  else if f.isNan b then some ⟨f.quiet b, c⟩
  else none

/-- The denormal-operand condition of two operands (R274). -/
def denormal2 {n : Nat} (f : Fmt n) (a b : BitVec n) : BitVec 6 := condIf (f.isDenormal a || f.isDenormal b) condD

/-! ## Arithmetic (R279 to R283) -/

/-- A sum of two operands that are no NaNs (R279). -/
def addNumbers {n : Nat} (f : Fmt n) (mx : Dword) (a b : BitVec n) : Lane n :=
  if f.isInf a && f.isInf b && f.neg a != f.neg b then ⟨f.indefinite, condI⟩
  else
    let c := denormal2 f a b
    if f.isInf a then ⟨a, c⟩
    else if f.isInf b then ⟨b, c⟩
    else
      let sum := f.value a + f.value b
      if sum = 0 then
        if f.isZero a && f.isZero b && f.neg a == f.neg b then ⟨a, c⟩
        else ⟨f.zero (mxRc mx == 1#2), c⟩
      else deliver f mx (decide (sum < 0)) sum.natAbs 1 c

/-- The sign bit flipped. -/
def Fmt.negate {n : Nat} (f : Fmt n) (x : BitVec n) : BitVec n := x ^^^ f.signed true 0

/-- `fadd(a, b)` (R279). -/
def fadd {n : Nat} (f : Fmt n) (mx : Dword) (a b : BitVec n) : Lane n :=
  let a := dazOperand f mx a
  let b := dazOperand f mx b
  match nanOf2 f a b with
  | some r => r
  | none => addNumbers f mx a b

/-- `fsub(a, b)` (R279). -/
def fsub {n : Nat} (f : Fmt n) (mx : Dword) (a b : BitVec n) : Lane n :=
  let a := dazOperand f mx a
  let b := dazOperand f mx b
  match nanOf2 f a b with
  | some r => r
  | none => addNumbers f mx a (f.negate b)

/-- `fmul(a, b)` (R280). -/
def fmul {n : Nat} (f : Fmt n) (mx : Dword) (a b : BitVec n) : Lane n :=
  let a := dazOperand f mx a
  let b := dazOperand f mx b
  match nanOf2 f a b with
  | some r => r
  | none =>
    let neg := f.neg a != f.neg b
    if (f.isZero a && f.isInf b) || (f.isInf a && f.isZero b) then ⟨f.indefinite, condI⟩
    else
      let c := denormal2 f a b
      if f.isInf a || f.isInf b then ⟨f.inf neg, c⟩
      else if f.isZero a || f.isZero b then ⟨f.zero neg, c⟩
      else deliver f mx neg (f.units a * f.units b) (2 ^ f.scale) c

/-- `fdiv(a, b)` (R281). -/
def fdiv {n : Nat} (f : Fmt n) (mx : Dword) (a b : BitVec n) : Lane n :=
  let a := dazOperand f mx a
  let b := dazOperand f mx b
  match nanOf2 f a b with
  | some r => r
  | none =>
    let neg := f.neg a != f.neg b
    if (f.isZero a && f.isZero b) || (f.isInf a && f.isInf b) then ⟨f.indefinite, condI⟩
    else if f.isZero b && !f.isInf a then ⟨f.inf neg, condZ⟩
    else
      let c := denormal2 f a b
      if f.isInf a then ⟨f.inf neg, c⟩
      else if f.isInf b || f.isZero a then ⟨f.zero neg, c⟩
      else deliver f mx neg (f.units a * 2 ^ f.scale) (f.units b) c

/-- The bits of the integer square root of `x` from bit `k - 1` down, `r` being those above. -/
def sqrtBits (x : Nat) : Nat → Nat → Nat
  | 0, r => r
  | k + 1, r => sqrtBits x k (if (r + 2 ^ k) * (r + 2 ^ k) ≤ x then r + 2 ^ k else r)

/-- The largest `r` with `r * r ≤ x`. -/
def isqrt (x : Nat) : Nat := sqrtBits x (x.log2 / 2 + 1) 0

/-- `fsqrt(a)` (R282). The exact root lies at `r` units or strictly between `r` and `r + 1`, where nothing the format
holds and no tie lies, so half a unit more rounds as it does. -/
def fsqrt {n : Nat} (f : Fmt n) (mx : Dword) (a : BitVec n) : Lane n :=
  let a := dazOperand f mx a
  if f.isNan a then ⟨f.quiet a, condIf (f.isSNan a) condI⟩
  else if f.isZero a then ⟨a, 0#6⟩
  else if f.neg a then ⟨f.indefinite, condI⟩
  else
    let c := condIf (f.isDenormal a) condD
    if f.isInf a then ⟨a, c⟩
    else
      let x := f.units a * 2 ^ f.scale
      let r := isqrt x
      deliver f mx false (2 * r + (if r * r = x then 0 else 1)) 2 c

/-- `fmin` and `fmax`, by the test for `a` (R283). -/
def pick {n : Nat} (f : Fmt n) (mx : Dword) (first : Int → Int → Bool) (a b : BitVec n) : Lane n :=
  let a := dazOperand f mx a
  let b := dazOperand f mx b
  if f.isNan a || f.isNan b then ⟨b, condI⟩
  else
    let c := denormal2 f a b
    if f.isZero a && f.isZero b then ⟨b, c⟩
    else if first (f.value a) (f.value b) then ⟨a, c⟩
    else ⟨b, c⟩

/-- `fmin(a, b)` (R283). -/
def fmin {n : Nat} (f : Fmt n) (mx : Dword) (a b : BitVec n) : Lane n := pick f mx (fun x y => decide (x < y)) a b

/-- `fmax(a, b)` (R283). -/
def fmax {n : Nat} (f : Fmt n) (mx : Dword) (a b : BitVec n) : Lane n := pick f mx (fun x y => decide (y < x)) a b

/-! ## Comparison (R288, R289) -/

/-- How two operands compare, by value. -/
def relation {n : Nat} (f : Fmt n) (a b : BitVec n) : Relation :=
  if f.isNan a || f.isNan b then .unordered
  else if f.value b < f.value a then .greater
  else if f.value a < f.value b then .less
  else .equal

/-- Invalid for any NaN if `anyNan`, else for a signalling one; else denormal (R274, R288, R289). -/
def compareConditions {n : Nat} (f : Fmt n) (anyNan : Bool) (a b : BitVec n) : BitVec 6 :=
  if f.isNan a || f.isNan b then condIf (anyNan || f.isSNan a || f.isSNan b) condI
  else denormal2 f a b

/-- Is a predicate of R288's table true of a relation? -/
def predicateTrue (p : BitVec 3) (r : Relation) : Bool :=
  match p.toNat with
  | 0 => r == .equal
  | 1 => r == .less
  | 2 => r == .less || r == .equal
  | 3 => r == .unordered
  | 4 => r != .equal
  | 5 => r != .less
  | 6 => !(r == .less || r == .equal)
  | _ => r != .unordered

/-- Does a predicate detect `I` on any NaN: LT, LE, NLT, NLE (R288)? -/
def predicateSignals (p : BitVec 3) : Bool := p == 1#3 || p == 2#3 || p == 5#3 || p == 6#3

/-- `fcmp(pred, a, b)` (R288). -/
def fcmp {n : Nat} (f : Fmt n) (p : BitVec 3) (mx : Dword) (a b : BitVec n) : Lane n :=
  let a := dazOperand f mx a
  let b := dazOperand f mx b
  ⟨if predicateTrue p (relation f a b) then BitVec.allOnes n else 0#n,
    compareConditions f (predicateSignals p) a b⟩

/-- `fcomi(a, b)` (R289): the relation and the detected set, `I` on any NaN if `anyNan` (COMISS, COMISD). -/
def fcomi {n : Nat} (f : Fmt n) (anyNan : Bool) (mx : Dword) (a b : BitVec n) : Relation × BitVec 6 :=
  let a := dazOperand f mx a
  let b := dazOperand f mx b
  (relation f a b, compareConditions f anyNan a b)

/-! ## Conversions (R290 to R292) -/

/-- `f2i(x, rc)` (R290). -/
def f2i {n : Nat} (f : Fmt n) (mx : Dword) (rc : BitVec 2) (x : BitVec n) : Lane 32 :=
  let x := dazOperand f mx x
  let m := roundQuotient rc (f.neg x) (f.units x) (2 ^ f.scale)
  let i : Int := if f.neg x then -(m : Int) else m
  if f.isNan x || f.isInf x || decide (i < -2147483648) || decide (2147483647 < i) then ⟨0x80000000#32, condI⟩
  else ⟨BitVec.ofInt 32 i, condIf (decide (m * 2 ^ f.scale ≠ f.units x)) condP⟩

/-- `i2f(n, fmt)` (R291). -/
def i2f {n : Nat} (f : Fmt n) (mx : Dword) (x : Dword) : Lane n :=
  if x = 0#32 then ⟨f.zero false, 0#6⟩
  else deliver f mx x.msb (x.toInt.natAbs * 2 ^ f.scale) 1 0#6

/-- `s2d(x)` (R292). -/
def s2d (mx : Dword) (x : Dword) : Lane 64 :=
  let x := dazOperand single mx x
  let neg := x.msb
  if single.isNan x then
    ⟨double.quiet (double.signed neg (double.top * 2 ^ 52 + single.frac x * 2 ^ 29)), condIf (single.isSNan x) condI⟩
  else if single.isInf x then ⟨double.inf neg, 0#6⟩
  else if single.isZero x then ⟨double.zero neg, 0#6⟩
  else ⟨double.pack neg (single.units x * 2 ^ (double.scale - single.scale)), condIf (single.isDenormal x) condD⟩

/-- `d2s(x)` (R292). -/
def d2s (mx : Dword) (x : Qword) : Lane 32 :=
  let x := dazOperand double mx x
  let neg := x.msb
  if double.isNan x then
    ⟨single.quiet (single.signed neg (single.top * 2 ^ 23 + double.frac x / 2 ^ 29)), condIf (double.isSNan x) condI⟩
  else if double.isInf x then ⟨single.inf neg, 0#6⟩
  else if double.isZero x then ⟨single.zero neg, 0#6⟩
  else deliver single mx neg (double.units x) (2 ^ (double.scale - single.scale)) (condIf (double.isDenormal x) condD)

/-! ## Reciprocal approximations (R293; log 20) -/

/-- Is `r` within `1.5 * 2^-12`, that is 3/8192, of `1/x` in relative error, with the sign of `x`? -/
def rcpWithin (x r : Dword) : Bool :=
  let p := single.units r * single.units x
  let one := 2 ^ (2 * single.scale)
  single.neg r == single.neg x && !single.isNan r && !single.isInf r &&
    decide (8189 * one ≤ 8192 * p) && decide (8192 * p ≤ 8195 * one)

/-- Is `r` positive and within `1.5 * 2^-12` of `1/sqrt(x)` in relative error? -/
def rsqrtWithin (x r : Dword) : Bool :=
  let p := single.units r * single.units r * single.units x
  let one := 2 ^ (3 * single.scale)
  !single.neg r && !single.isNan r && !single.isInf r &&
    decide (8189 ^ 2 * one ≤ 8192 ^ 2 * p) && decide (8192 ^ 2 * p ≤ 8195 ^ 2 * one)

/-- `1.0` in single precision. -/
def oneS : Dword := 0x3F800000#32

/-- MXCSR's reset value: round to nearest, all masked (10_state.md rule R52). -/
def mxReset : Dword := 0x00001F80#32

/-- `RCP32(x)` (R293): the special cases of the rule; else the free value if it is within the bound, and the rounded
quotient if it is not (log 20). -/
def rcp32 (x : Dword) : Dword :=
  if single.isNan x then single.quiet x
  else if single.isZero x || single.isDenormal x then single.inf x.msb
  else if single.isInf x then single.zero x.msb
  else if 2 ^ (single.scale + 126) < single.units x then single.zero x.msb
  else if rcpWithin x (Config.rcpRaw x) then Config.rcpRaw x
  else (fdiv single mxReset oneS x).bits

/-- `RSQRT32(x)` (R293): the special cases of the rule; else the free value if it is within the bound, and the rounded
quotient by the rounded root if it is not (log 20). -/
def rsqrt32 (x : Dword) : Dword :=
  if single.isNan x then single.quiet x
  else if single.isZero x || single.isDenormal x then single.inf x.msb
  else if x.msb then single.indefinite
  else if single.isInf x then single.zero false
  else if rsqrtWithin x (Config.rsqrtRaw x) then Config.rsqrtRaw x
  else (fdiv single mxReset oneS (fsqrt single mxReset x).bits).bits

end Sys2Proof.Machine
end

