-- ==== Sys2Proof/Machine/Lanes.lean ====
section
/-! DEFINITION. Packed integer operations on 64-bit and 128-bit values alike: lanes (00_scope.md rule R11), saturation
(R13), and the operations of 40_mmx.md, 40_mmx_pack_logic_shift.md, 43_sse_int_state_cache.md, 46_sse2_int128_ext.md,
46_sse2_int128_ext_pack_logic_shift.md and 47_sse2_int128_new.md. `k` is the width of the value, `w` of a lane. -/

namespace Sys2Proof.Machine

/-! ## Lanes -/

/-- Lane `i` of width `w`, lane 0 least significant (00_scope.md rule R11). -/
def lane {k : Nat} (w i : Nat) (v : BitVec k) : BitVec w := v.extractLsb' (w * i) w

/-- All lanes of width `w`. -/
def lanes {k : Nat} (w : Nat) (v : BitVec k) : List (BitVec w) := (List.range (k / w)).map fun i => lane w i v

/-- The value whose lanes are given, lane 0 first. -/
def ofLanes {w : Nat} (k : Nat) : List (BitVec w) → BitVec k
  | [] => 0#k
  | x :: xs => x.setWidth k ||| (ofLanes k xs <<< w)

/-- A value lane by lane. -/
def build (k w : Nat) (f : Nat → BitVec w) : BitVec k := ofLanes k ((List.range (k / w)).map f)

/-- One operation on every pair of lanes. -/
def map2 {k : Nat} (w : Nat) (f : BitVec w → BitVec w → BitVec w) (a b : BitVec k) : BitVec k :=
  build k w fun i => f (lane w i a) (lane w i b)

/-- One operation on every lane. -/
def map1 {k : Nat} (w : Nat) (f : BitVec w → BitVec w) (a : BitVec k) : BitVec k := build k w fun i => f (lane w i a)

/-- The value with lane `i` replaced. -/
def setLane {k : Nat} (w i : Nat) (x : BitVec w) (v : BitVec k) : BitVec k :=
  build k w fun j => if j = i then x else lane w j v

/-! ## Saturation (00_scope.md rule R13) -/

/-- The signed number of `w` bits nearest to an integer. -/
def satS (w : Nat) (x : Int) : BitVec w := BitVec.ofInt w (max (-(2 : Int) ^ (w - 1)) (min x ((2 : Int) ^ (w - 1) - 1)))

/-- The unsigned number of `w` bits nearest to an integer. -/
def satU (w : Nat) (x : Int) : BitVec w := BitVec.ofInt w (max 0 (min x ((2 : Int) ^ w - 1)))

/-! ## Arithmetic -/

/-- PADDB, PADDW, PADDD, PADDQ: wraparound (R207 to R209, R628). -/
def packedAdd {k : Nat} (w : Nat) (a b : BitVec k) : BitVec k := map2 w (fun x y => x + y) a b

/-- PADDSB, PADDSW (R210, R211). -/
def packedAddS {k : Nat} (w : Nat) (a b : BitVec k) : BitVec k := map2 w (fun x y => satS w (x.toInt + y.toInt)) a b

/-- PADDUSB, PADDUSW (R212, R213). -/
def packedAddUS {k : Nat} (w : Nat) (a b : BitVec k) : BitVec k :=
  map2 w (fun x y => satU w ((x.toNat : Int) + y.toNat)) a b

/-- PSUBB, PSUBW, PSUBD, PSUBQ: wraparound (R214 to R216, R630). -/
def packedSub {k : Nat} (w : Nat) (a b : BitVec k) : BitVec k := map2 w (fun x y => x - y) a b

/-- PSUBSB, PSUBSW (R217, R218). -/
def packedSubS {k : Nat} (w : Nat) (a b : BitVec k) : BitVec k := map2 w (fun x y => satS w (x.toInt - y.toInt)) a b

/-- PSUBUSB, PSUBUSW (R219, R220). -/
def packedSubUS {k : Nat} (w : Nat) (a b : BitVec k) : BitVec k :=
  map2 w (fun x y => satU w ((x.toNat : Int) - y.toNat)) a b

/-- PMULLW: the low half of each product (R221). -/
def packedMulLow {k : Nat} (w : Nat) (a b : BitVec k) : BitVec k := map2 w (fun x y => x * y) a b

/-- PMULHW: the high half of each signed product (R222). -/
def packedMulHighS {k : Nat} (w : Nat) (a b : BitVec k) : BitVec k :=
  map2 w (fun x y => (x.signExtend (2 * w) * y.signExtend (2 * w)).extractLsb' w w) a b

/-- PMULHUW: the high half of each unsigned product (R421). -/
def packedMulHighU {k : Nat} (w : Nat) (a b : BitVec k) : BitVec k :=
  map2 w (fun x y => (x.setWidth (2 * w) * y.setWidth (2 * w)).extractLsb' w w) a b

/-- PMADDWD: the sum of two adjacent signed products, modulo 2^32 (R223). -/
def packedMulAdd {k : Nat} (a b : BitVec k) : BitVec k :=
  build k 32 fun j =>
    (lane 16 (2 * j) a).signExtend 32 * (lane 16 (2 * j) b).signExtend 32 +
      (lane 16 (2 * j + 1) a).signExtend 32 * (lane 16 (2 * j + 1) b).signExtend 32

/-- PMULUDQ: the full product of the low unsigned doublewords of each quadword (R632, R633). -/
def packedMulU32 {k : Nat} (a b : BitVec k) : BitVec k :=
  build k 64 fun h => (lane 32 (2 * h) a).setWidth 64 * (lane 32 (2 * h) b).setWidth 64

/-- PAVGB, PAVGW: the average, a half rounded up (R412, R413). -/
def packedAvg {k : Nat} (w : Nat) (a b : BitVec k) : BitVec k :=
  map2 w (fun x y => BitVec.ofNat w ((x.toNat + y.toNat + 1) / 2)) a b

/-- PMAXSW (R416). -/
def packedMaxS {k : Nat} (w : Nat) (a b : BitVec k) : BitVec k := map2 w (fun x y => if y.slt x then x else y) a b

/-- PMINSW (R418). -/
def packedMinS {k : Nat} (w : Nat) (a b : BitVec k) : BitVec k := map2 w (fun x y => if x.slt y then x else y) a b

/-- PMAXUB (R417). -/
def packedMaxU {k : Nat} (w : Nat) (a b : BitVec k) : BitVec k := map2 w (fun x y => if y.ult x then x else y) a b

/-- PMINUB (R419). -/
def packedMinU {k : Nat} (w : Nat) (a b : BitVec k) : BitVec k := map2 w (fun x y => if x.ult y then x else y) a b

/-- `|u(x) - u(y)|` of two bytes. -/
def absDiff (x y : Byte) : Nat := (x.toNat - y.toNat) + (y.toNat - x.toNat)

/-- PSADBW: per quadword, the sum of the eight absolute differences (R422, R621). -/
def packedSad {k : Nat} (a b : BitVec k) : BitVec k :=
  build k 64 fun h =>
    BitVec.ofNat 64 (((List.range 8).map fun j => absDiff (lane 8 (8 * h + j) a) (lane 8 (8 * h + j) b)).sum)

/-! ## Compare -/

/-- All ones if true, all zeros if false. -/
def mask (w : Nat) (b : Bool) : BitVec w := if b then BitVec.allOnes w else 0#w

/-- PCMPEQB, PCMPEQW, PCMPEQD (R224 to R226). -/
def packedEq {k : Nat} (w : Nat) (a b : BitVec k) : BitVec k := map2 w (fun x y => mask w (x == y)) a b

/-- PCMPGTB, PCMPGTW, PCMPGTD: signed (R227 to R229). -/
def packedGt {k : Nat} (w : Nat) (a b : BitVec k) : BitVec k := map2 w (fun x y => mask w (y.slt x)) a b

/-! ## Pack, unpack, shuffle -/

/-- Narrow the lanes of `a` into the low half, those of `b` into the high half. -/
def packWith {k : Nat} (w : Nat) (f : Int → BitVec w) (a b : BitVec k) : BitVec k :=
  ofLanes k ((lanes (2 * w) a ++ lanes (2 * w) b).map fun x => f x.toInt)

/-- PACKSSWB, PACKSSDW (R230, R231). -/
def packS {k : Nat} (w : Nat) (a b : BitVec k) : BitVec k := packWith w (satS w) a b

/-- PACKUSWB (R232). -/
def packU {k : Nat} (w : Nat) (a b : BitVec k) : BitVec k := packWith w (satU w) a b

/-- Lanes of `a` and `b` in turn, from lane `start` on: the unpacks. -/
def interleave {k : Nat} (w start : Nat) (a b : BitVec k) : BitVec k :=
  build k w fun i => if i % 2 = 0 then lane w (start + i / 2) a else lane w (start + i / 2) b

/-- PUNPCKHBW and the like: the high halves (R233 to R235). -/
def unpackHigh {k : Nat} (w : Nat) (a b : BitVec k) : BitVec k := interleave w (k / w / 2) a b

/-- PUNPCKLBW and the like: the low halves (R236 to R238). -/
def unpackLow {k : Nat} (w : Nat) (a b : BitVec k) : BitVec k := interleave w 0 a b

/-- Selector `j`, two bits, of a shuffle's immediate. -/
def selector (imm : BitVec 8) (j : Nat) : Nat := (imm.extractLsb' (2 * j) 2).toNat

/-- PSHUFW and PSHUFD: four lanes of the source, each chosen by a selector (R423, R634). -/
def shuffle {k : Nat} (w : Nat) (imm : BitVec 8) (b : BitVec k) : BitVec k := build k w fun j => lane w (selector imm j) b

/-- PSHUFHW: the four words of the high quadword (R635). -/
def shuffleHigh (imm : BitVec 8) (b : BitVec 128) : BitVec 128 :=
  build 128 16 fun j => if j < 4 then lane 16 j b else lane 16 (4 + selector imm (j - 4)) b

/-- PSHUFLW: the four words of the low quadword (R636). -/
def shuffleLow (imm : BitVec 8) (b : BitVec 128) : BitVec 128 :=
  build 128 16 fun j => if j < 4 then lane 16 (selector imm j) b else lane 16 j b

/-- PMOVMSKB, MOVMSKPS, MOVMSKPD: the sign bit of every lane, lane 0's lowest (R420, R346). -/
def signMask {k : Nat} (w : Nat) (a : BitVec k) : BitVec 32 :=
  ofLanes 32 ((lanes w a).map fun x => BitVec.ofBool x.msb)

/-! ## Logic -/

/-- PANDN, ANDNPS, ANDNPD: the first operand complemented (R240, R295). -/
def andNot {k : Nat} (a b : BitVec k) : BitVec k := ~~~a &&& b

/-! ## Shifts by a common count -/

/-- PSLLW, PSLLD, PSLLQ: zero for a count above the lane's width (R243, R245, R247). -/
def packedShl {k : Nat} (w c : Nat) (a : BitVec k) : BitVec k := map1 w (fun x => if w ≤ c then 0#w else x <<< c) a

/-- PSRLW, PSRLD, PSRLQ: zero for a count above the lane's width (R249, R251, R253). -/
def packedShr {k : Nat} (w c : Nat) (a : BitVec k) : BitVec k := map1 w (fun x => if w ≤ c then 0#w else x >>> c) a

/-- PSRAW, PSRAD: a count above the lane's width behaves as the width less one (R255, R257). -/
def packedSar {k : Nat} (w c : Nat) (a : BitVec k) : BitVec k := map1 w (fun x => x.sshiftRight (min c (w - 1))) a

/-- PSLLDQ: by bytes (R637). -/
def shiftLeftBytes (c : Nat) (a : BitVec 128) : BitVec 128 := if 15 < c then 0#128 else a <<< (8 * c)

/-- PSRLDQ: by bytes (R638). -/
def shiftRightBytes (c : Nat) (a : BitVec 128) : BitVec 128 := if 15 < c then 0#128 else a >>> (8 * c)

end Sys2Proof.Machine
end

