-- ==== Sys2Proof/WellFormed.lean ====
section
/-! DEFINITION. Which terms of Instr stand for an encoding: every register number and immediate is in range by its
type, so the checks are on the memory operand (30_encoding.md rule R126). -/

namespace Sys2Proof

/-- ESP cannot be an index (30_encoding.md rule R126: `index = 4` means no index). -/
def MemOp.indexOk (m : MemOp) : Bool := m.index != some 4#3

/-- Without an index the `scale` field is ignored; the term keeps it zero (30_encoding.md rule R126). -/
def MemOp.scaleOk (m : MemOp) : Bool := m.index.isSome || m.scale == 0#2

/-- A memory operand that some ModRM, SIB and displacement bytes denote. -/
def MemOp.wellFormed (m : MemOp) : Bool := m.indexOk && m.scaleOk

/-- A register operand always is; a memory operand as `MemOp.wellFormed` says. -/
def RM.wellFormed : RM → Bool
  | .reg _ => true
  | .mem m => m.wellFormed

/-- A count operand: an immediate always is. -/
def Count.wellFormed : Count → Bool
  | .rm r => r.wellFormed
  | .imm _ => true

/-- The terms the encoder covers. -/
def Instr.wellFormed : Instr → Bool
  | .movdMm _ _ rm => rm.wellFormed
  | .movqMm _ _ rm => rm.wellFormed
  | .paddbMm _ rm => rm.wellFormed
  | .paddwMm _ rm => rm.wellFormed
  | .padddMm _ rm => rm.wellFormed
  | .paddsbMm _ rm => rm.wellFormed
  | .paddswMm _ rm => rm.wellFormed
  | .paddusbMm _ rm => rm.wellFormed
  | .padduswMm _ rm => rm.wellFormed
  | .psubbMm _ rm => rm.wellFormed
  | .psubwMm _ rm => rm.wellFormed
  | .psubdMm _ rm => rm.wellFormed
  | .psubsbMm _ rm => rm.wellFormed
  | .psubswMm _ rm => rm.wellFormed
  | .psubusbMm _ rm => rm.wellFormed
  | .psubuswMm _ rm => rm.wellFormed
  | .pmullwMm _ rm => rm.wellFormed
  | .pmulhwMm _ rm => rm.wellFormed
  | .pmaddwdMm _ rm => rm.wellFormed
  | .pcmpeqbMm _ rm => rm.wellFormed
  | .pcmpeqwMm _ rm => rm.wellFormed
  | .pcmpeqdMm _ rm => rm.wellFormed
  | .pcmpgtbMm _ rm => rm.wellFormed
  | .pcmpgtwMm _ rm => rm.wellFormed
  | .pcmpgtdMm _ rm => rm.wellFormed
  | .packsswbMm _ rm => rm.wellFormed
  | .packssdwMm _ rm => rm.wellFormed
  | .packuswbMm _ rm => rm.wellFormed
  | .punpckhbwMm _ rm => rm.wellFormed
  | .punpckhwdMm _ rm => rm.wellFormed
  | .punpckhdqMm _ rm => rm.wellFormed
  | .punpcklbwMm _ rm => rm.wellFormed
  | .punpcklwdMm _ rm => rm.wellFormed
  | .punpckldqMm _ rm => rm.wellFormed
  | .pandMm _ rm => rm.wellFormed
  | .pandnMm _ rm => rm.wellFormed
  | .porMm _ rm => rm.wellFormed
  | .pxorMm _ rm => rm.wellFormed
  | .psllwMm _ count => count.wellFormed
  | .pslldMm _ count => count.wellFormed
  | .psllqMm _ count => count.wellFormed
  | .psrlwMm _ count => count.wellFormed
  | .psrldMm _ count => count.wellFormed
  | .psrlqMm _ count => count.wellFormed
  | .psrawMm _ count => count.wellFormed
  | .psradMm _ count => count.wellFormed
  | .movaps _ _ rm => rm.wellFormed
  | .movups _ _ rm => rm.wellFormed
  | .movss _ _ rm => rm.wellFormed
  | .movlps _ _ m => m.wellFormed
  | .movhps _ _ m => m.wellFormed
  | .movhlps _ _ => true
  | .movlhps _ _ => true
  | .movmskps _ _ => true
  | .addps _ rm => rm.wellFormed
  | .addss _ rm => rm.wellFormed
  | .subps _ rm => rm.wellFormed
  | .subss _ rm => rm.wellFormed
  | .mulps _ rm => rm.wellFormed
  | .mulss _ rm => rm.wellFormed
  | .divps _ rm => rm.wellFormed
  | .divss _ rm => rm.wellFormed
  | .maxps _ rm => rm.wellFormed
  | .maxss _ rm => rm.wellFormed
  | .minps _ rm => rm.wellFormed
  | .minss _ rm => rm.wellFormed
  | .sqrtps _ rm => rm.wellFormed
  | .sqrtss _ rm => rm.wellFormed
  | .rcpps _ rm => rm.wellFormed
  | .rcpss _ rm => rm.wellFormed
  | .rsqrtps _ rm => rm.wellFormed
  | .rsqrtss _ rm => rm.wellFormed
  | .cmpps _ rm _ => rm.wellFormed
  | .cmpss _ rm _ => rm.wellFormed
  | .comiss _ rm => rm.wellFormed
  | .ucomiss _ rm => rm.wellFormed
  | .cvtpi2ps _ rm => rm.wellFormed
  | .cvtps2pi _ rm => rm.wellFormed
  | .cvttps2pi _ rm => rm.wellFormed
  | .cvtsi2ss _ rm => rm.wellFormed
  | .cvtss2si _ rm => rm.wellFormed
  | .cvttss2si _ rm => rm.wellFormed
  | .andps _ rm => rm.wellFormed
  | .andnps _ rm => rm.wellFormed
  | .orps _ rm => rm.wellFormed
  | .xorps _ rm => rm.wellFormed
  | .shufps _ rm _ => rm.wellFormed
  | .unpckhps _ rm => rm.wellFormed
  | .unpcklps _ rm => rm.wellFormed
  | .pavgbMm _ rm => rm.wellFormed
  | .pavgwMm _ rm => rm.wellFormed
  | .pextrwMm _ _ _ => true
  | .pinsrwMm _ rm _ => rm.wellFormed
  | .pmaxswMm _ rm => rm.wellFormed
  | .pmaxubMm _ rm => rm.wellFormed
  | .pminswMm _ rm => rm.wellFormed
  | .pminubMm _ rm => rm.wellFormed
  | .pmovmskbMm _ _ => true
  | .pmulhuwMm _ rm => rm.wellFormed
  | .psadbwMm _ rm => rm.wellFormed
  | .pshufw _ rm _ => rm.wellFormed
  | .ldmxcsr m => m.wellFormed
  | .stmxcsr m => m.wellFormed
  | .fxsave m => m.wellFormed
  | .fxrstor m => m.wellFormed
  | .maskmovq _ _ _ => true
  | .movntq _ m => m.wellFormed
  | .movntps _ m => m.wellFormed
  | .prefetcht0 m => m.wellFormed
  | .prefetcht1 m => m.wellFormed
  | .prefetcht2 m => m.wellFormed
  | .prefetchnta m => m.wellFormed
  | .movapd _ _ rm => rm.wellFormed
  | .movupd _ _ rm => rm.wellFormed
  | .movsd _ _ rm => rm.wellFormed
  | .movlpd _ _ m => m.wellFormed
  | .movhpd _ _ m => m.wellFormed
  | .movmskpd _ _ => true
  | .addpd _ rm => rm.wellFormed
  | .addsd _ rm => rm.wellFormed
  | .subpd _ rm => rm.wellFormed
  | .subsd _ rm => rm.wellFormed
  | .mulpd _ rm => rm.wellFormed
  | .mulsd _ rm => rm.wellFormed
  | .divpd _ rm => rm.wellFormed
  | .divsd _ rm => rm.wellFormed
  | .maxpd _ rm => rm.wellFormed
  | .maxsd _ rm => rm.wellFormed
  | .minpd _ rm => rm.wellFormed
  | .minsd _ rm => rm.wellFormed
  | .sqrtpd _ rm => rm.wellFormed
  | .sqrtsd _ rm => rm.wellFormed
  | .cmppd _ rm _ => rm.wellFormed
  | .cmpsd _ rm _ => rm.wellFormed
  | .comisd _ rm => rm.wellFormed
  | .ucomisd _ rm => rm.wellFormed
  | .andpd _ rm => rm.wellFormed
  | .andnpd _ rm => rm.wellFormed
  | .orpd _ rm => rm.wellFormed
  | .xorpd _ rm => rm.wellFormed
  | .shufpd _ rm _ => rm.wellFormed
  | .unpckhpd _ rm => rm.wellFormed
  | .unpcklpd _ rm => rm.wellFormed
  | .cvtpd2pi _ rm => rm.wellFormed
  | .cvttpd2pi _ rm => rm.wellFormed
  | .cvtpi2pd _ rm => rm.wellFormed
  | .cvtpd2dq _ rm => rm.wellFormed
  | .cvttpd2dq _ rm => rm.wellFormed
  | .cvtdq2pd _ rm => rm.wellFormed
  | .cvtps2pd _ rm => rm.wellFormed
  | .cvtpd2ps _ rm => rm.wellFormed
  | .cvtss2sd _ rm => rm.wellFormed
  | .cvtsd2ss _ rm => rm.wellFormed
  | .cvtsd2si _ rm => rm.wellFormed
  | .cvttsd2si _ rm => rm.wellFormed
  | .cvtsi2sd _ rm => rm.wellFormed
  | .cvtdq2ps _ rm => rm.wellFormed
  | .cvtps2dq _ rm => rm.wellFormed
  | .cvttps2dq _ rm => rm.wellFormed
  | .movdXmm _ _ rm => rm.wellFormed
  | .movqXmm _ _ rm => rm.wellFormed
  | .paddbXmm _ rm => rm.wellFormed
  | .paddwXmm _ rm => rm.wellFormed
  | .padddXmm _ rm => rm.wellFormed
  | .paddsbXmm _ rm => rm.wellFormed
  | .paddswXmm _ rm => rm.wellFormed
  | .paddusbXmm _ rm => rm.wellFormed
  | .padduswXmm _ rm => rm.wellFormed
  | .psubbXmm _ rm => rm.wellFormed
  | .psubwXmm _ rm => rm.wellFormed
  | .psubdXmm _ rm => rm.wellFormed
  | .psubsbXmm _ rm => rm.wellFormed
  | .psubswXmm _ rm => rm.wellFormed
  | .psubusbXmm _ rm => rm.wellFormed
  | .psubuswXmm _ rm => rm.wellFormed
  | .pmullwXmm _ rm => rm.wellFormed
  | .pmulhwXmm _ rm => rm.wellFormed
  | .pmaddwdXmm _ rm => rm.wellFormed
  | .pcmpeqbXmm _ rm => rm.wellFormed
  | .pcmpeqwXmm _ rm => rm.wellFormed
  | .pcmpeqdXmm _ rm => rm.wellFormed
  | .pcmpgtbXmm _ rm => rm.wellFormed
  | .pcmpgtwXmm _ rm => rm.wellFormed
  | .pcmpgtdXmm _ rm => rm.wellFormed
  | .packsswbXmm _ rm => rm.wellFormed
  | .packssdwXmm _ rm => rm.wellFormed
  | .packuswbXmm _ rm => rm.wellFormed
  | .punpckhbwXmm _ rm => rm.wellFormed
  | .punpckhwdXmm _ rm => rm.wellFormed
  | .punpckhdqXmm _ rm => rm.wellFormed
  | .punpcklbwXmm _ rm => rm.wellFormed
  | .punpcklwdXmm _ rm => rm.wellFormed
  | .punpckldqXmm _ rm => rm.wellFormed
  | .pandXmm _ rm => rm.wellFormed
  | .pandnXmm _ rm => rm.wellFormed
  | .porXmm _ rm => rm.wellFormed
  | .pxorXmm _ rm => rm.wellFormed
  | .psllwXmm _ count => count.wellFormed
  | .pslldXmm _ count => count.wellFormed
  | .psllqXmm _ count => count.wellFormed
  | .psrlwXmm _ count => count.wellFormed
  | .psrldXmm _ count => count.wellFormed
  | .psrlqXmm _ count => count.wellFormed
  | .psrawXmm _ count => count.wellFormed
  | .psradXmm _ count => count.wellFormed
  | .pavgbXmm _ rm => rm.wellFormed
  | .pavgwXmm _ rm => rm.wellFormed
  | .pextrwXmm _ _ _ => true
  | .pinsrwXmm _ rm _ => rm.wellFormed
  | .pmaxswXmm _ rm => rm.wellFormed
  | .pmaxubXmm _ rm => rm.wellFormed
  | .pminswXmm _ rm => rm.wellFormed
  | .pminubXmm _ rm => rm.wellFormed
  | .pmovmskbXmm _ _ => true
  | .pmulhuwXmm _ rm => rm.wellFormed
  | .psadbwXmm _ rm => rm.wellFormed
  | .movdqa _ _ rm => rm.wellFormed
  | .movdqu _ _ rm => rm.wellFormed
  | .movdq2q _ _ => true
  | .movq2dq _ _ => true
  | .paddqMm _ rm => rm.wellFormed
  | .paddqXmm _ rm => rm.wellFormed
  | .psubqMm _ rm => rm.wellFormed
  | .psubqXmm _ rm => rm.wellFormed
  | .pmuludqMm _ rm => rm.wellFormed
  | .pmuludqXmm _ rm => rm.wellFormed
  | .pshufd _ rm _ => rm.wellFormed
  | .pshufhw _ rm _ => rm.wellFormed
  | .pshuflw _ rm _ => rm.wellFormed
  | .pslldq _ _ => true
  | .psrldq _ _ => true
  | .punpckhqdqXmm _ rm => rm.wellFormed
  | .punpcklqdqXmm _ rm => rm.wellFormed
  | .clflush m => m.wellFormed
  | .movntpd _ m => m.wellFormed
  | .movntdq _ m => m.wellFormed
  | .maskmovdqu _ _ _ => true
  | .movnti _ m => m.wellFormed
  | .emms => true
  | .sfence => true
  | .lfence => true
  | .mfence => true
  | .pause => true

end Sys2Proof
end

