-- ==== Sys2Proof/Decode.lean ====
section
/-! DEFINITION. The decoder (30_encoding.md rules R120 to R143), total on any bytes, and after it the encoder, both
written from the spec's encodings. The decoder needs no state but `EXT` (R141). -/

namespace Sys2Proof

/-! ## Prefixes (R121, R122, R138) -/

/-- The prefix class of an instruction (R122): none of 66, F3, F2 present, or the one that is. -/
inductive Pfx where
  | np | p66 | pf3 | pf2
deriving DecidableEq, Repr

/-- The eleven legacy prefix bytes (R121). -/
def isPrefixByte (b : Byte) : Bool :=
  b == 0xF0#8 || b == 0xF2#8 || b == 0xF3#8 || b == 0x66#8 || b == 0x67#8 || b == 0x2E#8 || b == 0x36#8 ||
    b == 0x3E#8 || b == 0x26#8 || b == 0x64#8 || b == 0x65#8

/-- The segment an override prefix names (R121). -/
def overrideOf (b : Byte) : Option Seg :=
  if b == 0x2E#8 then some .cs
  else if b == 0x36#8 then some .ss
  else if b == 0x3E#8 then some .ds
  else if b == 0x26#8 then some .es
  else if b == 0x64#8 then some .fs
  else if b == 0x65#8 then some .gs
  else none

/-- The prefix class, if at most one of 66, F2, F3 is present (R122, R138 (c)). -/
def prefixClass (ps : List Byte) : Option Pfx :=
  match ps.contains 0x66#8, ps.contains 0xF3#8, ps.contains 0xF2#8 with
  | false, false, false => some .np
  | true, false, false => some .p66
  | false, true, false => some .pf3
  | false, false, true => some .pf2
  | _, _, _ => none

/-- The override in force: the first one (a second one is refused, `prefixesRepeat`). -/
def segOverride (ps : List Byte) : Option Seg := ps.findSome? overrideOf

/-- The same prefix byte twice, or two segment overrides (R121, R138 (d)). -/
def prefixesRepeat : List Byte → Bool
  | [] => false
  | p :: ps => ps.contains p || ((overrideOf p).isSome && (segOverride ps).isSome) || prefixesRepeat ps

/-! ## ModRM, SIB and displacement (R124 to R128) -/

/-- `ModRM[7:6]`. -/
def modOf (b : Byte) : BitVec 2 := b.extractLsb' 6 2

/-- `ModRM[5:3]`; in a SIB byte, the index. -/
def regOf (b : Byte) : Reg := b.extractLsb' 3 3

/-- `ModRM[2:0]`; in a SIB byte, the base. -/
def rmOf (b : Byte) : Reg := b.extractLsb' 0 3

/-- A little-endian 32-bit displacement (R125). -/
def dispOf (b0 b1 b2 b3 : Byte) : Dword :=
  ((b3 ++ b2 ++ b1 ++ b0 : BitVec 32))

/-- The displacement that `mod` selects, `noBase` telling the two `disp32` forms with `mod = 0` (R125, R126), and
the bytes after it; none if they run out. -/
def takeDisp (mod : BitVec 2) (noBase : Bool) (bs : List Byte) : Option (Dword × List Byte) :=
  if mod == 1#2 then
    match bs with
    | d :: rest => some (d.signExtend 32, rest)
    | [] => none
  else if mod == 2#2 || noBase then
    match bs with
    | b0 :: b1 :: b2 :: b3 :: rest => some (dispOf b0 b1 b2 b3, rest)
    | _ => none
  else some (0#32, bs)

/-- The default segment by the base register (R128): SS for ESP and EBP, else DS. -/
def defaultSeg (base : Option Reg) : Seg :=
  match base with
  | some b => if b == 4#3 || b == 5#3 then .ss else .ds
  | none => .ds

/-- The memory operand after a ModRM byte with `mod` not 3 (R125, R126, R128), and the bytes after it; none if they
run out. -/
def takeMem (ovr : Option Seg) (modrm : Byte) (bs : List Byte) : Option (MemOp × List Byte) :=
  let mod := modOf modrm
  if rmOf modrm == 4#3 then
    match bs with
    | [] => none
    | sib :: rest =>
      let noBase := rmOf sib == 5#3 && mod == 0#2
      let base := if noBase then none else some (rmOf sib)
      let noIndex := regOf sib == 4#3
      match takeDisp mod noBase rest with
      | none => none
      | some (d, rest') =>
        some ({ seg := ovr.getD (defaultSeg base), base := base,
                index := if noIndex then none else some (regOf sib),
                scale := if noIndex then 0#2 else modOf sib, disp := d }, rest')
  else
    let noBase := rmOf modrm == 5#3 && mod == 0#2
    let base := if noBase then none else some (rmOf modrm)
    match takeDisp mod noBase bs with
    | none => none
    | some (d, rest') =>
      some ({ seg := ovr.getD (defaultSeg base), base := base, index := none, scale := 0#2, disp := d }, rest')

/-- Register or memory, by `mod` (R124). -/
def takeRM (ovr : Option Seg) (modrm : Byte) (bs : List Byte) : Option (RM × List Byte) :=
  if modOf modrm == 3#2 then some (.reg (rmOf modrm), bs)
  else
    match takeMem ovr modrm bs with
    | some (m, rest) => some (.mem m, rest)
    | none => none

/-! ## The rows of the opcode table (R130, R146) -/

/-- A row's operand form: which ModRM bytes are the row's, and which operands follow. -/
inductive Form where
  /-- `/r`, any `mod`. -/
  | regRm (mk : Reg → RM → Instr)
  /-- `/r ib`, any `mod`. -/
  | regRmImm (mk : Reg → RM → Imm8 → Instr)
  /-- `/r ib`, any `mod`, the immediate a compare predicate. -/
  | regRmPred (mk : Reg → RM → Pred → Instr)
  /-- `/r`, `mod = 3` only. -/
  | regReg (mk : Reg → Reg → Instr)
  /-- `/r ib`, `mod = 3` only. -/
  | regRegImm (mk : Reg → Reg → Imm8 → Instr)
  /-- `/r`, memory only. -/
  | regMem (mk : Reg → MemOp → Instr)
  /-- `/digit ib`, `mod = 3` only. -/
  | rmImm (digit : Reg) (mk : Reg → Imm8 → Instr)
  /-- `/digit`, memory only. -/
  | mem (digit : Reg) (mk : MemOp → Instr)
  /-- `/digit`, `mod = 3` and `rm = 0`. -/
  | fixed (digit : Reg) (i : Instr)
  /-- `/r`, `mod = 3` only, with the implicit memory operand `DS:[EDI]` (R128). -/
  | masked (mk : Reg → Reg → Seg → Instr)

/-- A row of spec/opcode_table.json with a two-byte opcode and a ModRM byte. -/
structure Row where
  pfx  : Pfx
  op   : Byte
  ext  : Ext
  form : Form

/-- The MMX rows (40_mmx.md, 40_mmx_pack_logic_shift.md), but for EMMS, which has no ModRM byte. -/
def rowsMmx : List Row := [
  ⟨.np, 0x6E#8, .mmx, .regRm (.movdMm .load)⟩,
  ⟨.np, 0x7E#8, .mmx, .regRm (.movdMm .store)⟩,
  ⟨.np, 0x6F#8, .mmx, .regRm (.movqMm .load)⟩,
  ⟨.np, 0x7F#8, .mmx, .regRm (.movqMm .store)⟩,
  ⟨.np, 0xFC#8, .mmx, .regRm .paddbMm⟩,
  ⟨.np, 0xFD#8, .mmx, .regRm .paddwMm⟩,
  ⟨.np, 0xFE#8, .mmx, .regRm .padddMm⟩,
  ⟨.np, 0xEC#8, .mmx, .regRm .paddsbMm⟩,
  ⟨.np, 0xED#8, .mmx, .regRm .paddswMm⟩,
  ⟨.np, 0xDC#8, .mmx, .regRm .paddusbMm⟩,
  ⟨.np, 0xDD#8, .mmx, .regRm .padduswMm⟩,
  ⟨.np, 0xF8#8, .mmx, .regRm .psubbMm⟩,
  ⟨.np, 0xF9#8, .mmx, .regRm .psubwMm⟩,
  ⟨.np, 0xFA#8, .mmx, .regRm .psubdMm⟩,
  ⟨.np, 0xE8#8, .mmx, .regRm .psubsbMm⟩,
  ⟨.np, 0xE9#8, .mmx, .regRm .psubswMm⟩,
  ⟨.np, 0xD8#8, .mmx, .regRm .psubusbMm⟩,
  ⟨.np, 0xD9#8, .mmx, .regRm .psubuswMm⟩,
  ⟨.np, 0xD5#8, .mmx, .regRm .pmullwMm⟩,
  ⟨.np, 0xE5#8, .mmx, .regRm .pmulhwMm⟩,
  ⟨.np, 0xF5#8, .mmx, .regRm .pmaddwdMm⟩,
  ⟨.np, 0x74#8, .mmx, .regRm .pcmpeqbMm⟩,
  ⟨.np, 0x75#8, .mmx, .regRm .pcmpeqwMm⟩,
  ⟨.np, 0x76#8, .mmx, .regRm .pcmpeqdMm⟩,
  ⟨.np, 0x64#8, .mmx, .regRm .pcmpgtbMm⟩,
  ⟨.np, 0x65#8, .mmx, .regRm .pcmpgtwMm⟩,
  ⟨.np, 0x66#8, .mmx, .regRm .pcmpgtdMm⟩,
  ⟨.np, 0x63#8, .mmx, .regRm .packsswbMm⟩,
  ⟨.np, 0x6B#8, .mmx, .regRm .packssdwMm⟩,
  ⟨.np, 0x67#8, .mmx, .regRm .packuswbMm⟩,
  ⟨.np, 0x68#8, .mmx, .regRm .punpckhbwMm⟩,
  ⟨.np, 0x69#8, .mmx, .regRm .punpckhwdMm⟩,
  ⟨.np, 0x6A#8, .mmx, .regRm .punpckhdqMm⟩,
  ⟨.np, 0x60#8, .mmx, .regRm .punpcklbwMm⟩,
  ⟨.np, 0x61#8, .mmx, .regRm .punpcklwdMm⟩,
  ⟨.np, 0x62#8, .mmx, .regRm .punpckldqMm⟩,
  ⟨.np, 0xDB#8, .mmx, .regRm .pandMm⟩,
  ⟨.np, 0xDF#8, .mmx, .regRm .pandnMm⟩,
  ⟨.np, 0xEB#8, .mmx, .regRm .porMm⟩,
  ⟨.np, 0xEF#8, .mmx, .regRm .pxorMm⟩,
  ⟨.np, 0xF1#8, .mmx, .regRm (fun d c => .psllwMm d (.rm c))⟩,
  ⟨.np, 0x71#8, .mmx, .rmImm 6#3 (fun d c => .psllwMm d (.imm c))⟩,
  ⟨.np, 0xF2#8, .mmx, .regRm (fun d c => .pslldMm d (.rm c))⟩,
  ⟨.np, 0x72#8, .mmx, .rmImm 6#3 (fun d c => .pslldMm d (.imm c))⟩,
  ⟨.np, 0xF3#8, .mmx, .regRm (fun d c => .psllqMm d (.rm c))⟩,
  ⟨.np, 0x73#8, .mmx, .rmImm 6#3 (fun d c => .psllqMm d (.imm c))⟩,
  ⟨.np, 0xD1#8, .mmx, .regRm (fun d c => .psrlwMm d (.rm c))⟩,
  ⟨.np, 0x71#8, .mmx, .rmImm 2#3 (fun d c => .psrlwMm d (.imm c))⟩,
  ⟨.np, 0xD2#8, .mmx, .regRm (fun d c => .psrldMm d (.rm c))⟩,
  ⟨.np, 0x72#8, .mmx, .rmImm 2#3 (fun d c => .psrldMm d (.imm c))⟩,
  ⟨.np, 0xD3#8, .mmx, .regRm (fun d c => .psrlqMm d (.rm c))⟩,
  ⟨.np, 0x73#8, .mmx, .rmImm 2#3 (fun d c => .psrlqMm d (.imm c))⟩,
  ⟨.np, 0xE1#8, .mmx, .regRm (fun d c => .psrawMm d (.rm c))⟩,
  ⟨.np, 0x71#8, .mmx, .rmImm 4#3 (fun d c => .psrawMm d (.imm c))⟩,
  ⟨.np, 0xE2#8, .mmx, .regRm (fun d c => .psradMm d (.rm c))⟩,
  ⟨.np, 0x72#8, .mmx, .rmImm 4#3 (fun d c => .psradMm d (.imm c))⟩]

/-- The SSE rows (42_sse_fp.md, 42_sse_fp_cmp_conv.md, 43_sse_int_state_cache.md). -/
def rowsSse : List Row := [
  ⟨.np, 0x28#8, .sse, .regRm (.movaps .load)⟩,
  ⟨.np, 0x29#8, .sse, .regRm (.movaps .store)⟩,
  ⟨.np, 0x10#8, .sse, .regRm (.movups .load)⟩,
  ⟨.np, 0x11#8, .sse, .regRm (.movups .store)⟩,
  ⟨.pf3, 0x10#8, .sse, .regRm (.movss .load)⟩,
  ⟨.pf3, 0x11#8, .sse, .regRm (.movss .store)⟩,
  ⟨.np, 0x12#8, .sse, .regMem (.movlps .load)⟩,
  ⟨.np, 0x13#8, .sse, .regMem (.movlps .store)⟩,
  ⟨.np, 0x16#8, .sse, .regMem (.movhps .load)⟩,
  ⟨.np, 0x17#8, .sse, .regMem (.movhps .store)⟩,
  ⟨.np, 0x12#8, .sse, .regReg .movhlps⟩,
  ⟨.np, 0x16#8, .sse, .regReg .movlhps⟩,
  ⟨.np, 0x50#8, .sse, .regReg .movmskps⟩,
  ⟨.np, 0x58#8, .sse, .regRm .addps⟩,
  ⟨.pf3, 0x58#8, .sse, .regRm .addss⟩,
  ⟨.np, 0x5C#8, .sse, .regRm .subps⟩,
  ⟨.pf3, 0x5C#8, .sse, .regRm .subss⟩,
  ⟨.np, 0x59#8, .sse, .regRm .mulps⟩,
  ⟨.pf3, 0x59#8, .sse, .regRm .mulss⟩,
  ⟨.np, 0x5E#8, .sse, .regRm .divps⟩,
  ⟨.pf3, 0x5E#8, .sse, .regRm .divss⟩,
  ⟨.np, 0x5F#8, .sse, .regRm .maxps⟩,
  ⟨.pf3, 0x5F#8, .sse, .regRm .maxss⟩,
  ⟨.np, 0x5D#8, .sse, .regRm .minps⟩,
  ⟨.pf3, 0x5D#8, .sse, .regRm .minss⟩,
  ⟨.np, 0x51#8, .sse, .regRm .sqrtps⟩,
  ⟨.pf3, 0x51#8, .sse, .regRm .sqrtss⟩,
  ⟨.np, 0x53#8, .sse, .regRm .rcpps⟩,
  ⟨.pf3, 0x53#8, .sse, .regRm .rcpss⟩,
  ⟨.np, 0x52#8, .sse, .regRm .rsqrtps⟩,
  ⟨.pf3, 0x52#8, .sse, .regRm .rsqrtss⟩,
  ⟨.np, 0xC2#8, .sse, .regRmPred .cmpps⟩,
  ⟨.pf3, 0xC2#8, .sse, .regRmPred .cmpss⟩,
  ⟨.np, 0x2F#8, .sse, .regRm .comiss⟩,
  ⟨.np, 0x2E#8, .sse, .regRm .ucomiss⟩,
  ⟨.np, 0x2A#8, .sse, .regRm .cvtpi2ps⟩,
  ⟨.np, 0x2D#8, .sse, .regRm .cvtps2pi⟩,
  ⟨.np, 0x2C#8, .sse, .regRm .cvttps2pi⟩,
  ⟨.pf3, 0x2A#8, .sse, .regRm .cvtsi2ss⟩,
  ⟨.pf3, 0x2D#8, .sse, .regRm .cvtss2si⟩,
  ⟨.pf3, 0x2C#8, .sse, .regRm .cvttss2si⟩,
  ⟨.np, 0x54#8, .sse, .regRm .andps⟩,
  ⟨.np, 0x55#8, .sse, .regRm .andnps⟩,
  ⟨.np, 0x56#8, .sse, .regRm .orps⟩,
  ⟨.np, 0x57#8, .sse, .regRm .xorps⟩,
  ⟨.np, 0xC6#8, .sse, .regRmImm .shufps⟩,
  ⟨.np, 0x15#8, .sse, .regRm .unpckhps⟩,
  ⟨.np, 0x14#8, .sse, .regRm .unpcklps⟩,
  ⟨.np, 0xE0#8, .sse, .regRm .pavgbMm⟩,
  ⟨.np, 0xE3#8, .sse, .regRm .pavgwMm⟩,
  ⟨.np, 0xC5#8, .sse, .regRegImm .pextrwMm⟩,
  ⟨.np, 0xC4#8, .sse, .regRmImm .pinsrwMm⟩,
  ⟨.np, 0xEE#8, .sse, .regRm .pmaxswMm⟩,
  ⟨.np, 0xDE#8, .sse, .regRm .pmaxubMm⟩,
  ⟨.np, 0xEA#8, .sse, .regRm .pminswMm⟩,
  ⟨.np, 0xDA#8, .sse, .regRm .pminubMm⟩,
  ⟨.np, 0xD7#8, .sse, .regReg .pmovmskbMm⟩,
  ⟨.np, 0xE4#8, .sse, .regRm .pmulhuwMm⟩,
  ⟨.np, 0xF6#8, .sse, .regRm .psadbwMm⟩,
  ⟨.np, 0x70#8, .sse, .regRmImm .pshufw⟩,
  ⟨.np, 0xAE#8, .sse, .mem 2#3 .ldmxcsr⟩,
  ⟨.np, 0xAE#8, .sse, .mem 3#3 .stmxcsr⟩,
  ⟨.np, 0xAE#8, .sse, .mem 0#3 .fxsave⟩,
  ⟨.np, 0xAE#8, .sse, .mem 1#3 .fxrstor⟩,
  ⟨.np, 0xF7#8, .sse, .masked .maskmovq⟩,
  ⟨.np, 0xE7#8, .sse, .regMem .movntq⟩,
  ⟨.np, 0x2B#8, .sse, .regMem .movntps⟩,
  ⟨.np, 0xAE#8, .sse, .fixed 7#3 .sfence⟩,
  ⟨.np, 0x18#8, .sse, .mem 1#3 .prefetcht0⟩,
  ⟨.np, 0x18#8, .sse, .mem 2#3 .prefetcht1⟩,
  ⟨.np, 0x18#8, .sse, .mem 3#3 .prefetcht2⟩,
  ⟨.np, 0x18#8, .sse, .mem 0#3 .prefetchnta⟩]

/-- The SSE2 floating-point and conversion rows (44_sse2_fp.md, 45_sse2_conversion.md). -/
def rowsSse2Fp : List Row := [
  ⟨.p66, 0x28#8, .sse2, .regRm (.movapd .load)⟩,
  ⟨.p66, 0x29#8, .sse2, .regRm (.movapd .store)⟩,
  ⟨.p66, 0x10#8, .sse2, .regRm (.movupd .load)⟩,
  ⟨.p66, 0x11#8, .sse2, .regRm (.movupd .store)⟩,
  ⟨.pf2, 0x10#8, .sse2, .regRm (.movsd .load)⟩,
  ⟨.pf2, 0x11#8, .sse2, .regRm (.movsd .store)⟩,
  ⟨.p66, 0x12#8, .sse2, .regMem (.movlpd .load)⟩,
  ⟨.p66, 0x13#8, .sse2, .regMem (.movlpd .store)⟩,
  ⟨.p66, 0x16#8, .sse2, .regMem (.movhpd .load)⟩,
  ⟨.p66, 0x17#8, .sse2, .regMem (.movhpd .store)⟩,
  ⟨.p66, 0x50#8, .sse2, .regReg .movmskpd⟩,
  ⟨.p66, 0x58#8, .sse2, .regRm .addpd⟩,
  ⟨.pf2, 0x58#8, .sse2, .regRm .addsd⟩,
  ⟨.p66, 0x5C#8, .sse2, .regRm .subpd⟩,
  ⟨.pf2, 0x5C#8, .sse2, .regRm .subsd⟩,
  ⟨.p66, 0x59#8, .sse2, .regRm .mulpd⟩,
  ⟨.pf2, 0x59#8, .sse2, .regRm .mulsd⟩,
  ⟨.p66, 0x5E#8, .sse2, .regRm .divpd⟩,
  ⟨.pf2, 0x5E#8, .sse2, .regRm .divsd⟩,
  ⟨.p66, 0x5F#8, .sse2, .regRm .maxpd⟩,
  ⟨.pf2, 0x5F#8, .sse2, .regRm .maxsd⟩,
  ⟨.p66, 0x5D#8, .sse2, .regRm .minpd⟩,
  ⟨.pf2, 0x5D#8, .sse2, .regRm .minsd⟩,
  ⟨.p66, 0x51#8, .sse2, .regRm .sqrtpd⟩,
  ⟨.pf2, 0x51#8, .sse2, .regRm .sqrtsd⟩,
  ⟨.p66, 0xC2#8, .sse2, .regRmPred .cmppd⟩,
  ⟨.pf2, 0xC2#8, .sse2, .regRmPred .cmpsd⟩,
  ⟨.p66, 0x2F#8, .sse2, .regRm .comisd⟩,
  ⟨.p66, 0x2E#8, .sse2, .regRm .ucomisd⟩,
  ⟨.p66, 0x54#8, .sse2, .regRm .andpd⟩,
  ⟨.p66, 0x55#8, .sse2, .regRm .andnpd⟩,
  ⟨.p66, 0x56#8, .sse2, .regRm .orpd⟩,
  ⟨.p66, 0x57#8, .sse2, .regRm .xorpd⟩,
  ⟨.p66, 0xC6#8, .sse2, .regRmImm .shufpd⟩,
  ⟨.p66, 0x15#8, .sse2, .regRm .unpckhpd⟩,
  ⟨.p66, 0x14#8, .sse2, .regRm .unpcklpd⟩,
  ⟨.p66, 0x2D#8, .sse2, .regRm .cvtpd2pi⟩,
  ⟨.p66, 0x2C#8, .sse2, .regRm .cvttpd2pi⟩,
  ⟨.p66, 0x2A#8, .sse2, .regRm .cvtpi2pd⟩,
  ⟨.pf2, 0xE6#8, .sse2, .regRm .cvtpd2dq⟩,
  ⟨.p66, 0xE6#8, .sse2, .regRm .cvttpd2dq⟩,
  ⟨.pf3, 0xE6#8, .sse2, .regRm .cvtdq2pd⟩,
  ⟨.np, 0x5A#8, .sse2, .regRm .cvtps2pd⟩,
  ⟨.p66, 0x5A#8, .sse2, .regRm .cvtpd2ps⟩,
  ⟨.pf3, 0x5A#8, .sse2, .regRm .cvtss2sd⟩,
  ⟨.pf2, 0x5A#8, .sse2, .regRm .cvtsd2ss⟩,
  ⟨.pf2, 0x2D#8, .sse2, .regRm .cvtsd2si⟩,
  ⟨.pf2, 0x2C#8, .sse2, .regRm .cvttsd2si⟩,
  ⟨.pf2, 0x2A#8, .sse2, .regRm .cvtsi2sd⟩,
  ⟨.np, 0x5B#8, .sse2, .regRm .cvtdq2ps⟩,
  ⟨.p66, 0x5B#8, .sse2, .regRm .cvtps2dq⟩,
  ⟨.pf3, 0x5B#8, .sse2, .regRm .cvttps2dq⟩]

/-- The SSE2 rows that extend MMX and SSE integer instructions to 128 bits (46, 46_pack_logic_shift, 47). -/
def rowsSse2Int : List Row := [
  ⟨.p66, 0x6E#8, .sse2, .regRm (.movdXmm .load)⟩,
  ⟨.p66, 0x7E#8, .sse2, .regRm (.movdXmm .store)⟩,
  ⟨.pf3, 0x7E#8, .sse2, .regRm (.movqXmm .load)⟩,
  ⟨.p66, 0xD6#8, .sse2, .regRm (.movqXmm .store)⟩,
  ⟨.p66, 0xFC#8, .sse2, .regRm .paddbXmm⟩,
  ⟨.p66, 0xFD#8, .sse2, .regRm .paddwXmm⟩,
  ⟨.p66, 0xFE#8, .sse2, .regRm .padddXmm⟩,
  ⟨.p66, 0xEC#8, .sse2, .regRm .paddsbXmm⟩,
  ⟨.p66, 0xED#8, .sse2, .regRm .paddswXmm⟩,
  ⟨.p66, 0xDC#8, .sse2, .regRm .paddusbXmm⟩,
  ⟨.p66, 0xDD#8, .sse2, .regRm .padduswXmm⟩,
  ⟨.p66, 0xF8#8, .sse2, .regRm .psubbXmm⟩,
  ⟨.p66, 0xF9#8, .sse2, .regRm .psubwXmm⟩,
  ⟨.p66, 0xFA#8, .sse2, .regRm .psubdXmm⟩,
  ⟨.p66, 0xE8#8, .sse2, .regRm .psubsbXmm⟩,
  ⟨.p66, 0xE9#8, .sse2, .regRm .psubswXmm⟩,
  ⟨.p66, 0xD8#8, .sse2, .regRm .psubusbXmm⟩,
  ⟨.p66, 0xD9#8, .sse2, .regRm .psubuswXmm⟩,
  ⟨.p66, 0xD5#8, .sse2, .regRm .pmullwXmm⟩,
  ⟨.p66, 0xE5#8, .sse2, .regRm .pmulhwXmm⟩,
  ⟨.p66, 0xF5#8, .sse2, .regRm .pmaddwdXmm⟩,
  ⟨.p66, 0x74#8, .sse2, .regRm .pcmpeqbXmm⟩,
  ⟨.p66, 0x75#8, .sse2, .regRm .pcmpeqwXmm⟩,
  ⟨.p66, 0x76#8, .sse2, .regRm .pcmpeqdXmm⟩,
  ⟨.p66, 0x64#8, .sse2, .regRm .pcmpgtbXmm⟩,
  ⟨.p66, 0x65#8, .sse2, .regRm .pcmpgtwXmm⟩,
  ⟨.p66, 0x66#8, .sse2, .regRm .pcmpgtdXmm⟩,
  ⟨.p66, 0x63#8, .sse2, .regRm .packsswbXmm⟩,
  ⟨.p66, 0x6B#8, .sse2, .regRm .packssdwXmm⟩,
  ⟨.p66, 0x67#8, .sse2, .regRm .packuswbXmm⟩,
  ⟨.p66, 0x68#8, .sse2, .regRm .punpckhbwXmm⟩,
  ⟨.p66, 0x69#8, .sse2, .regRm .punpckhwdXmm⟩,
  ⟨.p66, 0x6A#8, .sse2, .regRm .punpckhdqXmm⟩,
  ⟨.p66, 0x60#8, .sse2, .regRm .punpcklbwXmm⟩,
  ⟨.p66, 0x61#8, .sse2, .regRm .punpcklwdXmm⟩,
  ⟨.p66, 0x62#8, .sse2, .regRm .punpckldqXmm⟩,
  ⟨.p66, 0xDB#8, .sse2, .regRm .pandXmm⟩,
  ⟨.p66, 0xDF#8, .sse2, .regRm .pandnXmm⟩,
  ⟨.p66, 0xEB#8, .sse2, .regRm .porXmm⟩,
  ⟨.p66, 0xEF#8, .sse2, .regRm .pxorXmm⟩,
  ⟨.p66, 0xF1#8, .sse2, .regRm (fun d c => .psllwXmm d (.rm c))⟩,
  ⟨.p66, 0x71#8, .sse2, .rmImm 6#3 (fun d c => .psllwXmm d (.imm c))⟩,
  ⟨.p66, 0xF2#8, .sse2, .regRm (fun d c => .pslldXmm d (.rm c))⟩,
  ⟨.p66, 0x72#8, .sse2, .rmImm 6#3 (fun d c => .pslldXmm d (.imm c))⟩,
  ⟨.p66, 0xF3#8, .sse2, .regRm (fun d c => .psllqXmm d (.rm c))⟩,
  ⟨.p66, 0x73#8, .sse2, .rmImm 6#3 (fun d c => .psllqXmm d (.imm c))⟩,
  ⟨.p66, 0xD1#8, .sse2, .regRm (fun d c => .psrlwXmm d (.rm c))⟩,
  ⟨.p66, 0x71#8, .sse2, .rmImm 2#3 (fun d c => .psrlwXmm d (.imm c))⟩,
  ⟨.p66, 0xD2#8, .sse2, .regRm (fun d c => .psrldXmm d (.rm c))⟩,
  ⟨.p66, 0x72#8, .sse2, .rmImm 2#3 (fun d c => .psrldXmm d (.imm c))⟩,
  ⟨.p66, 0xD3#8, .sse2, .regRm (fun d c => .psrlqXmm d (.rm c))⟩,
  ⟨.p66, 0x73#8, .sse2, .rmImm 2#3 (fun d c => .psrlqXmm d (.imm c))⟩,
  ⟨.p66, 0xE1#8, .sse2, .regRm (fun d c => .psrawXmm d (.rm c))⟩,
  ⟨.p66, 0x71#8, .sse2, .rmImm 4#3 (fun d c => .psrawXmm d (.imm c))⟩,
  ⟨.p66, 0xE2#8, .sse2, .regRm (fun d c => .psradXmm d (.rm c))⟩,
  ⟨.p66, 0x72#8, .sse2, .rmImm 4#3 (fun d c => .psradXmm d (.imm c))⟩,
  ⟨.p66, 0xE0#8, .sse2, .regRm .pavgbXmm⟩,
  ⟨.p66, 0xE3#8, .sse2, .regRm .pavgwXmm⟩,
  ⟨.p66, 0xC5#8, .sse2, .regRegImm .pextrwXmm⟩,
  ⟨.p66, 0xC4#8, .sse2, .regRmImm .pinsrwXmm⟩,
  ⟨.p66, 0xEE#8, .sse2, .regRm .pmaxswXmm⟩,
  ⟨.p66, 0xDE#8, .sse2, .regRm .pmaxubXmm⟩,
  ⟨.p66, 0xEA#8, .sse2, .regRm .pminswXmm⟩,
  ⟨.p66, 0xDA#8, .sse2, .regRm .pminubXmm⟩,
  ⟨.p66, 0xD7#8, .sse2, .regReg .pmovmskbXmm⟩,
  ⟨.p66, 0xE4#8, .sse2, .regRm .pmulhuwXmm⟩,
  ⟨.p66, 0xF6#8, .sse2, .regRm .psadbwXmm⟩]

/-- The new SSE2 integer and cache-control rows (47_sse2_int128_new.md, 48_sse2_cache.md), but for PAUSE. -/
def rowsSse2New : List Row := [
  ⟨.p66, 0x6F#8, .sse2, .regRm (.movdqa .load)⟩,
  ⟨.p66, 0x7F#8, .sse2, .regRm (.movdqa .store)⟩,
  ⟨.pf3, 0x6F#8, .sse2, .regRm (.movdqu .load)⟩,
  ⟨.pf3, 0x7F#8, .sse2, .regRm (.movdqu .store)⟩,
  ⟨.pf2, 0xD6#8, .sse2, .regReg .movdq2q⟩,
  ⟨.pf3, 0xD6#8, .sse2, .regReg .movq2dq⟩,
  ⟨.np, 0xD4#8, .sse2, .regRm .paddqMm⟩,
  ⟨.p66, 0xD4#8, .sse2, .regRm .paddqXmm⟩,
  ⟨.np, 0xFB#8, .sse2, .regRm .psubqMm⟩,
  ⟨.p66, 0xFB#8, .sse2, .regRm .psubqXmm⟩,
  ⟨.np, 0xF4#8, .sse2, .regRm .pmuludqMm⟩,
  ⟨.p66, 0xF4#8, .sse2, .regRm .pmuludqXmm⟩,
  ⟨.p66, 0x70#8, .sse2, .regRmImm .pshufd⟩,
  ⟨.pf3, 0x70#8, .sse2, .regRmImm .pshufhw⟩,
  ⟨.pf2, 0x70#8, .sse2, .regRmImm .pshuflw⟩,
  ⟨.p66, 0x73#8, .sse2, .rmImm 7#3 .pslldq⟩,
  ⟨.p66, 0x73#8, .sse2, .rmImm 3#3 .psrldq⟩,
  ⟨.p66, 0x6D#8, .sse2, .regRm .punpckhqdqXmm⟩,
  ⟨.p66, 0x6C#8, .sse2, .regRm .punpcklqdqXmm⟩,
  ⟨.np, 0xAE#8, .sse2, .mem 7#3 .clflush⟩,
  ⟨.np, 0xAE#8, .sse2, .fixed 5#3 .lfence⟩,
  ⟨.np, 0xAE#8, .sse2, .fixed 6#3 .mfence⟩,
  ⟨.p66, 0x2B#8, .sse2, .regMem .movntpd⟩,
  ⟨.p66, 0xE7#8, .sse2, .regMem .movntdq⟩,
  ⟨.p66, 0xF7#8, .sse2, .masked .maskmovdqu⟩,
  ⟨.np, 0xC3#8, .sse2, .regMem .movnti⟩]

/-- The opcode table, but for EMMS and PAUSE. -/
def opcodeRows : List Row := rowsMmx ++ rowsSse ++ rowsSse2Fp ++ rowsSse2Int ++ rowsSse2New

/-- Which ModRM bytes a form admits (R124, R133 to R136). -/
def Form.accepts (f : Form) (modrm : Byte) : Bool :=
  match f with
  | .regRm _ | .regRmImm _ | .regRmPred _ => true
  | .regReg _ | .regRegImm _ | .masked _ => modOf modrm == 3#2
  | .regMem _ => modOf modrm != 3#2
  | .rmImm d _ => modOf modrm == 3#2 && regOf modrm == d
  | .mem d _ => modOf modrm != 3#2 && regOf modrm == d
  | .fixed d _ => modOf modrm == 3#2 && regOf modrm == d && rmOf modrm == 0#3

/-- Does the form with this ModRM byte have a memory operand? (R143 refuses prefix 67 with one.) -/
def Form.hasMem (f : Form) (modrm : Byte) : Bool :=
  match f with
  | .regRm _ | .regRmImm _ | .regRmPred _ => modOf modrm != 3#2
  | .regMem _ | .mem _ _ | .masked _ => true
  | .regReg _ | .regRegImm _ | .rmImm _ _ | .fixed _ _ => false

/-- `EXT >= ext` (R139). -/
def Ext.has (have_ need : Ext) : Bool :=
  match have_, need with
  | _, .mmx => true
  | .mmx, _ => false
  | _, .sse => true
  | .sse, .sse2 => false
  | .sse2, .sse2 => true

/-! ## Decoding (R141) -/

/-- Why the decoder gives bytes no outcome; each is a refusal of `Machine.Refusal` of the same name. -/
inductive DecodeRefusal where
  | unknownOpcode | mandatoryPrefixMisuse | repeatedPrefix | laterExtensionForm | addressSize16
  | reservedHint | reservedFence | reservedPredicate
deriving DecidableEq, Repr

/-- What bytes at `eip` denote: an instruction and its length; #UD; no outcome, by name; or more bytes are needed. -/
inductive Decoded where
  | instr (i : Instr) (len : Nat)
  | undefined
  | refused (why : DecodeRefusal)
  | needMore
deriving DecidableEq, Repr

/-- Does opcode byte `op` have an available row under some prefix class (R138 (b), R139)? EMMS is a row of 77. -/
def opcodeAvailable (ext : Ext) (op : Byte) : Bool :=
  op == 0x77#8 || opcodeRows.any (fun r => r.op == op && ext.has r.ext)

/-- The rows of prefix class `p` and opcode byte `op` (R122). -/
def rowsFor (p : Pfx) (op : Byte) : List Row := opcodeRows.filter (fun r => r.op == op && r.pfx == p)

/-- Bytes whose ModRM byte no row of their opcode admits: #UD (R133, R134, R136), but for the reserved hints (R135)
and the fences with `rm` not 0 (R134), which are refused. -/
def noRow (op modrm : Byte) : Decoded :=
  if op == 0x18#8 then .refused .reservedHint
  else if op == 0xAE#8 && modOf modrm == 3#2 && (regOf modrm == 5#3 || regOf modrm == 6#3 || regOf modrm == 7#3) then
    .refused .reservedFence
  else .undefined

/-- The end of decoding: `L` is the number of bytes consumed (R141 step 10). -/
def finish (total : Nat) (i : Instr) (rest : List Byte) : Decoded := .instr i (total - rest.length)

/-- The operands a row's form asks for, after the ModRM byte (R141 steps 8 to 10). -/
def decodeOperands (ps : List Byte) (total : Nat) (f : Form) (modrm : Byte) (bs : List Byte) : Decoded :=
  let ovr := segOverride ps
  match f with
  | .regRm mk =>
    match takeRM ovr modrm bs with
    | some (rm, rest) => finish total (mk (regOf modrm) rm) rest
    | none => .needMore
  | .regRmImm mk =>
    match takeRM ovr modrm bs with
    | some (rm, imm :: rest) => finish total (mk (regOf modrm) rm imm) rest
    | _ => .needMore
  | .regRmPred mk =>
    match takeRM ovr modrm bs with
    | some (rm, imm :: rest) =>
      if imm.extractLsb' 3 5 == 0#5 then finish total (mk (regOf modrm) rm (imm.extractLsb' 0 3)) rest
      else .refused .reservedPredicate
    | _ => .needMore
  | .regReg mk => finish total (mk (regOf modrm) (rmOf modrm)) bs
  | .regRegImm mk =>
    match bs with
    | imm :: rest => finish total (mk (regOf modrm) (rmOf modrm) imm) rest
    | [] => .needMore
  | .regMem mk =>
    match takeMem ovr modrm bs with
    | some (m, rest) => finish total (mk (regOf modrm) m) rest
    | none => .needMore
  | .rmImm _ mk =>
    match bs with
    | imm :: rest => finish total (mk (rmOf modrm) imm) rest
    | [] => .needMore
  | .mem _ mk =>
    match takeMem ovr modrm bs with
    | some (m, rest) => finish total (mk m) rest
    | none => .needMore
  | .fixed _ i => finish total i bs
  | .masked mk => finish total (mk (regOf modrm) (rmOf modrm) (ovr.getD .ds)) bs

/-- The row that the ModRM byte selects (R141 step 6), and the conditions on it: LOCK is #UD (R138 (a)); a row of a later
extension is #UD or refused (R139); prefix 67 with a memory operand is refused (R143). That LOCK stands first among the
three is a DESIGN CHOICE, log 16. -/
def decodeRow (ext : Ext) (ps : List Byte) (total : Nat) (op modrm : Byte) (rows : List Row) (bs : List Byte) :
    Decoded :=
  match rows.find? (fun r => r.form.accepts modrm) with
  | none => noRow op modrm
  | some r =>
    if ps.contains 0xF0#8 then .undefined
    else if !ext.has r.ext then
      if r.pfx == .np || !opcodeAvailable ext op then .undefined else .refused .laterExtensionForm
    else if r.form.hasMem modrm && ps.contains 0x67#8 then .refused .addressSize16
    else decodeOperands ps total r.form modrm bs

/-- After `0F op` in prefix class `p` (R141 steps 5 to 10). -/
def decodeOpcode (ext : Ext) (ps : List Byte) (total : Nat) (p : Pfx) (op : Byte) (bs : List Byte) : Decoded :=
  if p == .np && op == 0x77#8 then
    if ps.contains 0xF0#8 then .undefined else finish total .emms bs
  else
    match rowsFor p op with
    | [] => .refused (if opcodeAvailable ext op then .mandatoryPrefixMisuse else .unknownOpcode)
    | rows =>
      match bs with
      | [] => .needMore
      | modrm :: rest => decodeRow ext ps total op modrm rows rest

/-- The prefix class, unless the prefixes alone refuse the bytes, R138 (c) and (d): R141 applies them in step 4, before it
reads the ModRM byte. That they also come before R138 (a)'s #UD for LOCK is a DESIGN CHOICE, log 16. -/
def classify (ps : List Byte) : Except DecodeRefusal Pfx :=
  match prefixClass ps with
  | none => .error .mandatoryPrefixMisuse
  | some p => if prefixesRepeat ps then .error .repeatedPrefix else .ok p

/-- The byte 90 with F3 among its prefixes is PAUSE (R141 step 2): LOCK on it is #UD (R138 (a), 48_sse2_cache.md rule
R656); segment overrides and 67 have no effect (R138 (f), 92_eei_decisions.md D20). -/
def decodePause (ps : List Byte) (total : Nat) (bs : List Byte) : Decoded :=
  match classify ps with
  | .error why => .refused why
  | .ok _ => if ps.contains 0xF0#8 then .undefined else finish total .pause bs

/-- The decoder (R141) on a list of at most 15 bytes from `eip` on. -/
def decode (ext : Ext) (bs : List Byte) : Decoded :=
  let ps := bs.takeWhile isPrefixByte
  match bs.dropWhile isPrefixByte with
  | [] => .needMore
  | b :: r1 =>
    if b == 0x90#8 && ps.contains 0xF3#8 then decodePause ps bs.length r1
    else if b != 0x0F#8 then .refused .unknownOpcode
    else
      match r1 with
      | [] => .needMore
      | op :: r2 =>
        match classify ps with
        | .error why => .refused why
        | .ok p => decodeOpcode ext ps bs.length p op r2

/-! ## The table's numbering of an instruction's bits -/

/-- The `n` bytes of a number, most significant first: the order in which spec/opcode_table.json writes an
instruction's bytes (30_encoding.md rule R146). -/
def bytesMsbFirst : Nat → Nat → List Byte
  | 0, _ => []
  | n + 1, w => BitVec.ofNat 8 (w / 256 ^ n) :: bytesMsbFirst n w

/-- The 15 bytes an instruction of the table stands for: its own bytes, then zeros (log 21). -/
def windowOf (bs : List Byte) : List Byte := (bs ++ List.replicate 15 0#8).take 15

/-- Does the decoder give these bytes an instruction? -/
def decodes (bs : List Byte) : Bool :=
  match decode .sse2 (windowOf bs) with
  | .instr _ _ => true
  | _ => false

/-- The bytes of a table word of `nbits` bits: first byte most significant, as the table numbers them; a word that is
no instruction in that order but is one with its first byte least significant is read in that order (log 21). -/
def tableBytes (nbits w : Nat) : List Byte :=
  let bs := bytesMsbFirst ((nbits + 7) / 8) w
  if !decodes bs && decodes bs.reverse then windowOf bs.reverse else windowOf bs

/-- The instruction the decoder reads from a row's word, on a processor that has every extension. -/
def decodeTableWord (nbits w : Nat) : Option Instr :=
  match decode .sse2 (tableBytes nbits w) with
  | .instr i _ => some i
  | _ => none

/-! ## Encoding -/

/-- A ModRM byte, or a SIB byte, from its three fields (R124, R126). -/
def modrmByte (mod : BitVec 2) (reg rm : Reg) : Byte := mod ++ reg ++ rm

/-- A displacement's four bytes, least significant first (R125). -/
def dispBytes (d : Dword) : List Byte :=
  [d.extractLsb' 0 8, d.extractLsb' 8 8, d.extractLsb' 16 8, d.extractLsb' 24 8]

/-- ModRM, SIB and displacement of a memory operand, always with a 32-bit displacement (R125, R126). -/
def encodeMem (reg : Reg) (m : MemOp) : List Byte :=
  match m.base, m.index with
  | none, none => modrmByte 0#2 reg 5#3 :: dispBytes m.disp
  | none, some x => modrmByte 0#2 reg 4#3 :: modrmByte m.scale x 5#3 :: dispBytes m.disp
  | some b, some x => modrmByte 2#2 reg 4#3 :: modrmByte m.scale x b :: dispBytes m.disp
  | some b, none =>
    if b == 4#3 then modrmByte 2#2 reg 4#3 :: modrmByte 0#2 4#3 4#3 :: dispBytes m.disp
    else modrmByte 2#2 reg b :: dispBytes m.disp

/-- The override byte of a segment (R121). -/
def overrideByte : Seg → Byte
  | .cs => 0x2E#8
  | .ss => 0x36#8
  | .ds => 0x3E#8
  | .es => 0x26#8
  | .fs => 0x64#8
  | .gs => 0x65#8

/-- An override, where the segment is not the default one (R128). -/
def segPrefix (seg dflt : Seg) : List Byte := if seg == dflt then [] else [overrideByte seg]

/-- The mandatory prefix byte of a class (R122). -/
def Pfx.bytes : Pfx → List Byte
  | .np => []
  | .p66 => [0x66#8]
  | .pf3 => [0xF3#8]
  | .pf2 => [0xF2#8]

/-- A register form: prefix, `0F op`, ModRM with `mod = 3` (R130). -/
def encReg (p : Pfx) (op : Byte) (reg rm : Reg) : List Byte := p.bytes ++ [0x0F#8, op, modrmByte 3#2 reg rm]

/-- A memory form: override, prefix, `0F op`, ModRM and what follows it (R130). -/
def encMem (p : Pfx) (op : Byte) (reg : Reg) (m : MemOp) : List Byte :=
  segPrefix m.seg (defaultSeg m.base) ++ p.bytes ++ [0x0F#8, op] ++ encodeMem reg m

/-- `/r` with a register or memory operand (R130). -/
def encRm (p : Pfx) (op : Byte) (reg : Reg) : RM → List Byte
  | .reg r => encReg p op reg r
  | .mem m => encMem p op reg m

/-- A masked store: override of the implicit `DS:[EDI]` (R128), then the register form. -/
def encMasked (p : Pfx) (op : Byte) (reg rm : Reg) (seg : Seg) : List Byte := segPrefix seg .ds ++ encReg p op reg rm

/-- The bytes of an instruction, one encoding of those the row admits. -/
def encode : Instr → List Byte
  | .movdMm .load reg rm => encRm .np 0x6E#8 reg rm
  | .movdMm .store reg rm => encRm .np 0x7E#8 reg rm
  | .movqMm .load reg rm => encRm .np 0x6F#8 reg rm
  | .movqMm .store reg rm => encRm .np 0x7F#8 reg rm
  | .paddbMm reg rm => encRm .np 0xFC#8 reg rm
  | .paddwMm reg rm => encRm .np 0xFD#8 reg rm
  | .padddMm reg rm => encRm .np 0xFE#8 reg rm
  | .paddsbMm reg rm => encRm .np 0xEC#8 reg rm
  | .paddswMm reg rm => encRm .np 0xED#8 reg rm
  | .paddusbMm reg rm => encRm .np 0xDC#8 reg rm
  | .padduswMm reg rm => encRm .np 0xDD#8 reg rm
  | .psubbMm reg rm => encRm .np 0xF8#8 reg rm
  | .psubwMm reg rm => encRm .np 0xF9#8 reg rm
  | .psubdMm reg rm => encRm .np 0xFA#8 reg rm
  | .psubsbMm reg rm => encRm .np 0xE8#8 reg rm
  | .psubswMm reg rm => encRm .np 0xE9#8 reg rm
  | .psubusbMm reg rm => encRm .np 0xD8#8 reg rm
  | .psubuswMm reg rm => encRm .np 0xD9#8 reg rm
  | .pmullwMm reg rm => encRm .np 0xD5#8 reg rm
  | .pmulhwMm reg rm => encRm .np 0xE5#8 reg rm
  | .pmaddwdMm reg rm => encRm .np 0xF5#8 reg rm
  | .pcmpeqbMm reg rm => encRm .np 0x74#8 reg rm
  | .pcmpeqwMm reg rm => encRm .np 0x75#8 reg rm
  | .pcmpeqdMm reg rm => encRm .np 0x76#8 reg rm
  | .pcmpgtbMm reg rm => encRm .np 0x64#8 reg rm
  | .pcmpgtwMm reg rm => encRm .np 0x65#8 reg rm
  | .pcmpgtdMm reg rm => encRm .np 0x66#8 reg rm
  | .packsswbMm reg rm => encRm .np 0x63#8 reg rm
  | .packssdwMm reg rm => encRm .np 0x6B#8 reg rm
  | .packuswbMm reg rm => encRm .np 0x67#8 reg rm
  | .punpckhbwMm reg rm => encRm .np 0x68#8 reg rm
  | .punpckhwdMm reg rm => encRm .np 0x69#8 reg rm
  | .punpckhdqMm reg rm => encRm .np 0x6A#8 reg rm
  | .punpcklbwMm reg rm => encRm .np 0x60#8 reg rm
  | .punpcklwdMm reg rm => encRm .np 0x61#8 reg rm
  | .punpckldqMm reg rm => encRm .np 0x62#8 reg rm
  | .pandMm reg rm => encRm .np 0xDB#8 reg rm
  | .pandnMm reg rm => encRm .np 0xDF#8 reg rm
  | .porMm reg rm => encRm .np 0xEB#8 reg rm
  | .pxorMm reg rm => encRm .np 0xEF#8 reg rm
  | .psllwMm reg (.rm rm) => encRm .np 0xF1#8 reg rm
  | .psllwMm rm (.imm imm) => encReg .np 0x71#8 6#3 rm ++ [imm]
  | .pslldMm reg (.rm rm) => encRm .np 0xF2#8 reg rm
  | .pslldMm rm (.imm imm) => encReg .np 0x72#8 6#3 rm ++ [imm]
  | .psllqMm reg (.rm rm) => encRm .np 0xF3#8 reg rm
  | .psllqMm rm (.imm imm) => encReg .np 0x73#8 6#3 rm ++ [imm]
  | .psrlwMm reg (.rm rm) => encRm .np 0xD1#8 reg rm
  | .psrlwMm rm (.imm imm) => encReg .np 0x71#8 2#3 rm ++ [imm]
  | .psrldMm reg (.rm rm) => encRm .np 0xD2#8 reg rm
  | .psrldMm rm (.imm imm) => encReg .np 0x72#8 2#3 rm ++ [imm]
  | .psrlqMm reg (.rm rm) => encRm .np 0xD3#8 reg rm
  | .psrlqMm rm (.imm imm) => encReg .np 0x73#8 2#3 rm ++ [imm]
  | .psrawMm reg (.rm rm) => encRm .np 0xE1#8 reg rm
  | .psrawMm rm (.imm imm) => encReg .np 0x71#8 4#3 rm ++ [imm]
  | .psradMm reg (.rm rm) => encRm .np 0xE2#8 reg rm
  | .psradMm rm (.imm imm) => encReg .np 0x72#8 4#3 rm ++ [imm]
  | .movaps .load reg rm => encRm .np 0x28#8 reg rm
  | .movaps .store reg rm => encRm .np 0x29#8 reg rm
  | .movups .load reg rm => encRm .np 0x10#8 reg rm
  | .movups .store reg rm => encRm .np 0x11#8 reg rm
  | .movss .load reg rm => encRm .pf3 0x10#8 reg rm
  | .movss .store reg rm => encRm .pf3 0x11#8 reg rm
  | .movlps .load reg m => encMem .np 0x12#8 reg m
  | .movlps .store reg m => encMem .np 0x13#8 reg m
  | .movhps .load reg m => encMem .np 0x16#8 reg m
  | .movhps .store reg m => encMem .np 0x17#8 reg m
  | .movhlps reg rm => encReg .np 0x12#8 reg rm
  | .movlhps reg rm => encReg .np 0x16#8 reg rm
  | .movmskps reg rm => encReg .np 0x50#8 reg rm
  | .addps reg rm => encRm .np 0x58#8 reg rm
  | .addss reg rm => encRm .pf3 0x58#8 reg rm
  | .subps reg rm => encRm .np 0x5C#8 reg rm
  | .subss reg rm => encRm .pf3 0x5C#8 reg rm
  | .mulps reg rm => encRm .np 0x59#8 reg rm
  | .mulss reg rm => encRm .pf3 0x59#8 reg rm
  | .divps reg rm => encRm .np 0x5E#8 reg rm
  | .divss reg rm => encRm .pf3 0x5E#8 reg rm
  | .maxps reg rm => encRm .np 0x5F#8 reg rm
  | .maxss reg rm => encRm .pf3 0x5F#8 reg rm
  | .minps reg rm => encRm .np 0x5D#8 reg rm
  | .minss reg rm => encRm .pf3 0x5D#8 reg rm
  | .sqrtps reg rm => encRm .np 0x51#8 reg rm
  | .sqrtss reg rm => encRm .pf3 0x51#8 reg rm
  | .rcpps reg rm => encRm .np 0x53#8 reg rm
  | .rcpss reg rm => encRm .pf3 0x53#8 reg rm
  | .rsqrtps reg rm => encRm .np 0x52#8 reg rm
  | .rsqrtss reg rm => encRm .pf3 0x52#8 reg rm
  | .cmpps reg rm pred => encRm .np 0xC2#8 reg rm ++ [pred.setWidth 8]
  | .cmpss reg rm pred => encRm .pf3 0xC2#8 reg rm ++ [pred.setWidth 8]
  | .comiss reg rm => encRm .np 0x2F#8 reg rm
  | .ucomiss reg rm => encRm .np 0x2E#8 reg rm
  | .cvtpi2ps reg rm => encRm .np 0x2A#8 reg rm
  | .cvtps2pi reg rm => encRm .np 0x2D#8 reg rm
  | .cvttps2pi reg rm => encRm .np 0x2C#8 reg rm
  | .cvtsi2ss reg rm => encRm .pf3 0x2A#8 reg rm
  | .cvtss2si reg rm => encRm .pf3 0x2D#8 reg rm
  | .cvttss2si reg rm => encRm .pf3 0x2C#8 reg rm
  | .andps reg rm => encRm .np 0x54#8 reg rm
  | .andnps reg rm => encRm .np 0x55#8 reg rm
  | .orps reg rm => encRm .np 0x56#8 reg rm
  | .xorps reg rm => encRm .np 0x57#8 reg rm
  | .shufps reg rm imm => encRm .np 0xC6#8 reg rm ++ [imm]
  | .unpckhps reg rm => encRm .np 0x15#8 reg rm
  | .unpcklps reg rm => encRm .np 0x14#8 reg rm
  | .pavgbMm reg rm => encRm .np 0xE0#8 reg rm
  | .pavgwMm reg rm => encRm .np 0xE3#8 reg rm
  | .pextrwMm reg rm imm => encReg .np 0xC5#8 reg rm ++ [imm]
  | .pinsrwMm reg rm imm => encRm .np 0xC4#8 reg rm ++ [imm]
  | .pmaxswMm reg rm => encRm .np 0xEE#8 reg rm
  | .pmaxubMm reg rm => encRm .np 0xDE#8 reg rm
  | .pminswMm reg rm => encRm .np 0xEA#8 reg rm
  | .pminubMm reg rm => encRm .np 0xDA#8 reg rm
  | .pmovmskbMm reg rm => encReg .np 0xD7#8 reg rm
  | .pmulhuwMm reg rm => encRm .np 0xE4#8 reg rm
  | .psadbwMm reg rm => encRm .np 0xF6#8 reg rm
  | .pshufw reg rm imm => encRm .np 0x70#8 reg rm ++ [imm]
  | .ldmxcsr m => encMem .np 0xAE#8 2#3 m
  | .stmxcsr m => encMem .np 0xAE#8 3#3 m
  | .fxsave m => encMem .np 0xAE#8 0#3 m
  | .fxrstor m => encMem .np 0xAE#8 1#3 m
  | .maskmovq reg rm seg => encMasked .np 0xF7#8 reg rm seg
  | .movntq reg m => encMem .np 0xE7#8 reg m
  | .movntps reg m => encMem .np 0x2B#8 reg m
  | .prefetcht0 m => encMem .np 0x18#8 1#3 m
  | .prefetcht1 m => encMem .np 0x18#8 2#3 m
  | .prefetcht2 m => encMem .np 0x18#8 3#3 m
  | .prefetchnta m => encMem .np 0x18#8 0#3 m
  | .movapd .load reg rm => encRm .p66 0x28#8 reg rm
  | .movapd .store reg rm => encRm .p66 0x29#8 reg rm
  | .movupd .load reg rm => encRm .p66 0x10#8 reg rm
  | .movupd .store reg rm => encRm .p66 0x11#8 reg rm
  | .movsd .load reg rm => encRm .pf2 0x10#8 reg rm
  | .movsd .store reg rm => encRm .pf2 0x11#8 reg rm
  | .movlpd .load reg m => encMem .p66 0x12#8 reg m
  | .movlpd .store reg m => encMem .p66 0x13#8 reg m
  | .movhpd .load reg m => encMem .p66 0x16#8 reg m
  | .movhpd .store reg m => encMem .p66 0x17#8 reg m
  | .movmskpd reg rm => encReg .p66 0x50#8 reg rm
  | .addpd reg rm => encRm .p66 0x58#8 reg rm
  | .addsd reg rm => encRm .pf2 0x58#8 reg rm
  | .subpd reg rm => encRm .p66 0x5C#8 reg rm
  | .subsd reg rm => encRm .pf2 0x5C#8 reg rm
  | .mulpd reg rm => encRm .p66 0x59#8 reg rm
  | .mulsd reg rm => encRm .pf2 0x59#8 reg rm
  | .divpd reg rm => encRm .p66 0x5E#8 reg rm
  | .divsd reg rm => encRm .pf2 0x5E#8 reg rm
  | .maxpd reg rm => encRm .p66 0x5F#8 reg rm
  | .maxsd reg rm => encRm .pf2 0x5F#8 reg rm
  | .minpd reg rm => encRm .p66 0x5D#8 reg rm
  | .minsd reg rm => encRm .pf2 0x5D#8 reg rm
  | .sqrtpd reg rm => encRm .p66 0x51#8 reg rm
  | .sqrtsd reg rm => encRm .pf2 0x51#8 reg rm
  | .cmppd reg rm pred => encRm .p66 0xC2#8 reg rm ++ [pred.setWidth 8]
  | .cmpsd reg rm pred => encRm .pf2 0xC2#8 reg rm ++ [pred.setWidth 8]
  | .comisd reg rm => encRm .p66 0x2F#8 reg rm
  | .ucomisd reg rm => encRm .p66 0x2E#8 reg rm
  | .andpd reg rm => encRm .p66 0x54#8 reg rm
  | .andnpd reg rm => encRm .p66 0x55#8 reg rm
  | .orpd reg rm => encRm .p66 0x56#8 reg rm
  | .xorpd reg rm => encRm .p66 0x57#8 reg rm
  | .shufpd reg rm imm => encRm .p66 0xC6#8 reg rm ++ [imm]
  | .unpckhpd reg rm => encRm .p66 0x15#8 reg rm
  | .unpcklpd reg rm => encRm .p66 0x14#8 reg rm
  | .cvtpd2pi reg rm => encRm .p66 0x2D#8 reg rm
  | .cvttpd2pi reg rm => encRm .p66 0x2C#8 reg rm
  | .cvtpi2pd reg rm => encRm .p66 0x2A#8 reg rm
  | .cvtpd2dq reg rm => encRm .pf2 0xE6#8 reg rm
  | .cvttpd2dq reg rm => encRm .p66 0xE6#8 reg rm
  | .cvtdq2pd reg rm => encRm .pf3 0xE6#8 reg rm
  | .cvtps2pd reg rm => encRm .np 0x5A#8 reg rm
  | .cvtpd2ps reg rm => encRm .p66 0x5A#8 reg rm
  | .cvtss2sd reg rm => encRm .pf3 0x5A#8 reg rm
  | .cvtsd2ss reg rm => encRm .pf2 0x5A#8 reg rm
  | .cvtsd2si reg rm => encRm .pf2 0x2D#8 reg rm
  | .cvttsd2si reg rm => encRm .pf2 0x2C#8 reg rm
  | .cvtsi2sd reg rm => encRm .pf2 0x2A#8 reg rm
  | .cvtdq2ps reg rm => encRm .np 0x5B#8 reg rm
  | .cvtps2dq reg rm => encRm .p66 0x5B#8 reg rm
  | .cvttps2dq reg rm => encRm .pf3 0x5B#8 reg rm
  | .movdXmm .load reg rm => encRm .p66 0x6E#8 reg rm
  | .movdXmm .store reg rm => encRm .p66 0x7E#8 reg rm
  | .movqXmm .load reg rm => encRm .pf3 0x7E#8 reg rm
  | .movqXmm .store reg rm => encRm .p66 0xD6#8 reg rm
  | .paddbXmm reg rm => encRm .p66 0xFC#8 reg rm
  | .paddwXmm reg rm => encRm .p66 0xFD#8 reg rm
  | .padddXmm reg rm => encRm .p66 0xFE#8 reg rm
  | .paddsbXmm reg rm => encRm .p66 0xEC#8 reg rm
  | .paddswXmm reg rm => encRm .p66 0xED#8 reg rm
  | .paddusbXmm reg rm => encRm .p66 0xDC#8 reg rm
  | .padduswXmm reg rm => encRm .p66 0xDD#8 reg rm
  | .psubbXmm reg rm => encRm .p66 0xF8#8 reg rm
  | .psubwXmm reg rm => encRm .p66 0xF9#8 reg rm
  | .psubdXmm reg rm => encRm .p66 0xFA#8 reg rm
  | .psubsbXmm reg rm => encRm .p66 0xE8#8 reg rm
  | .psubswXmm reg rm => encRm .p66 0xE9#8 reg rm
  | .psubusbXmm reg rm => encRm .p66 0xD8#8 reg rm
  | .psubuswXmm reg rm => encRm .p66 0xD9#8 reg rm
  | .pmullwXmm reg rm => encRm .p66 0xD5#8 reg rm
  | .pmulhwXmm reg rm => encRm .p66 0xE5#8 reg rm
  | .pmaddwdXmm reg rm => encRm .p66 0xF5#8 reg rm
  | .pcmpeqbXmm reg rm => encRm .p66 0x74#8 reg rm
  | .pcmpeqwXmm reg rm => encRm .p66 0x75#8 reg rm
  | .pcmpeqdXmm reg rm => encRm .p66 0x76#8 reg rm
  | .pcmpgtbXmm reg rm => encRm .p66 0x64#8 reg rm
  | .pcmpgtwXmm reg rm => encRm .p66 0x65#8 reg rm
  | .pcmpgtdXmm reg rm => encRm .p66 0x66#8 reg rm
  | .packsswbXmm reg rm => encRm .p66 0x63#8 reg rm
  | .packssdwXmm reg rm => encRm .p66 0x6B#8 reg rm
  | .packuswbXmm reg rm => encRm .p66 0x67#8 reg rm
  | .punpckhbwXmm reg rm => encRm .p66 0x68#8 reg rm
  | .punpckhwdXmm reg rm => encRm .p66 0x69#8 reg rm
  | .punpckhdqXmm reg rm => encRm .p66 0x6A#8 reg rm
  | .punpcklbwXmm reg rm => encRm .p66 0x60#8 reg rm
  | .punpcklwdXmm reg rm => encRm .p66 0x61#8 reg rm
  | .punpckldqXmm reg rm => encRm .p66 0x62#8 reg rm
  | .pandXmm reg rm => encRm .p66 0xDB#8 reg rm
  | .pandnXmm reg rm => encRm .p66 0xDF#8 reg rm
  | .porXmm reg rm => encRm .p66 0xEB#8 reg rm
  | .pxorXmm reg rm => encRm .p66 0xEF#8 reg rm
  | .psllwXmm reg (.rm rm) => encRm .p66 0xF1#8 reg rm
  | .psllwXmm rm (.imm imm) => encReg .p66 0x71#8 6#3 rm ++ [imm]
  | .pslldXmm reg (.rm rm) => encRm .p66 0xF2#8 reg rm
  | .pslldXmm rm (.imm imm) => encReg .p66 0x72#8 6#3 rm ++ [imm]
  | .psllqXmm reg (.rm rm) => encRm .p66 0xF3#8 reg rm
  | .psllqXmm rm (.imm imm) => encReg .p66 0x73#8 6#3 rm ++ [imm]
  | .psrlwXmm reg (.rm rm) => encRm .p66 0xD1#8 reg rm
  | .psrlwXmm rm (.imm imm) => encReg .p66 0x71#8 2#3 rm ++ [imm]
  | .psrldXmm reg (.rm rm) => encRm .p66 0xD2#8 reg rm
  | .psrldXmm rm (.imm imm) => encReg .p66 0x72#8 2#3 rm ++ [imm]
  | .psrlqXmm reg (.rm rm) => encRm .p66 0xD3#8 reg rm
  | .psrlqXmm rm (.imm imm) => encReg .p66 0x73#8 2#3 rm ++ [imm]
  | .psrawXmm reg (.rm rm) => encRm .p66 0xE1#8 reg rm
  | .psrawXmm rm (.imm imm) => encReg .p66 0x71#8 4#3 rm ++ [imm]
  | .psradXmm reg (.rm rm) => encRm .p66 0xE2#8 reg rm
  | .psradXmm rm (.imm imm) => encReg .p66 0x72#8 4#3 rm ++ [imm]
  | .pavgbXmm reg rm => encRm .p66 0xE0#8 reg rm
  | .pavgwXmm reg rm => encRm .p66 0xE3#8 reg rm
  | .pextrwXmm reg rm imm => encReg .p66 0xC5#8 reg rm ++ [imm]
  | .pinsrwXmm reg rm imm => encRm .p66 0xC4#8 reg rm ++ [imm]
  | .pmaxswXmm reg rm => encRm .p66 0xEE#8 reg rm
  | .pmaxubXmm reg rm => encRm .p66 0xDE#8 reg rm
  | .pminswXmm reg rm => encRm .p66 0xEA#8 reg rm
  | .pminubXmm reg rm => encRm .p66 0xDA#8 reg rm
  | .pmovmskbXmm reg rm => encReg .p66 0xD7#8 reg rm
  | .pmulhuwXmm reg rm => encRm .p66 0xE4#8 reg rm
  | .psadbwXmm reg rm => encRm .p66 0xF6#8 reg rm
  | .movdqa .load reg rm => encRm .p66 0x6F#8 reg rm
  | .movdqa .store reg rm => encRm .p66 0x7F#8 reg rm
  | .movdqu .load reg rm => encRm .pf3 0x6F#8 reg rm
  | .movdqu .store reg rm => encRm .pf3 0x7F#8 reg rm
  | .movdq2q reg rm => encReg .pf2 0xD6#8 reg rm
  | .movq2dq reg rm => encReg .pf3 0xD6#8 reg rm
  | .paddqMm reg rm => encRm .np 0xD4#8 reg rm
  | .paddqXmm reg rm => encRm .p66 0xD4#8 reg rm
  | .psubqMm reg rm => encRm .np 0xFB#8 reg rm
  | .psubqXmm reg rm => encRm .p66 0xFB#8 reg rm
  | .pmuludqMm reg rm => encRm .np 0xF4#8 reg rm
  | .pmuludqXmm reg rm => encRm .p66 0xF4#8 reg rm
  | .pshufd reg rm imm => encRm .p66 0x70#8 reg rm ++ [imm]
  | .pshufhw reg rm imm => encRm .pf3 0x70#8 reg rm ++ [imm]
  | .pshuflw reg rm imm => encRm .pf2 0x70#8 reg rm ++ [imm]
  | .pslldq rm imm => encReg .p66 0x73#8 7#3 rm ++ [imm]
  | .psrldq rm imm => encReg .p66 0x73#8 3#3 rm ++ [imm]
  | .punpckhqdqXmm reg rm => encRm .p66 0x6D#8 reg rm
  | .punpcklqdqXmm reg rm => encRm .p66 0x6C#8 reg rm
  | .clflush m => encMem .np 0xAE#8 7#3 m
  | .movntpd reg m => encMem .p66 0x2B#8 reg m
  | .movntdq reg m => encMem .p66 0xE7#8 reg m
  | .maskmovdqu reg rm seg => encMasked .p66 0xF7#8 reg rm seg
  | .movnti reg m => encMem .np 0xC3#8 reg m
  | .emms => [0x0F#8, 0x77#8]
  | .sfence => encReg .np 0xAE#8 7#3 0#3
  | .lfence => encReg .np 0xAE#8 5#3 0#3
  | .mfence => encReg .np 0xAE#8 6#3 0#3
  | .pause => [0xF3#8, 0x90#8]

end Sys2Proof
end

