-- ==== Sys2Proof/Machine/Memory.lean ====
section
/-! DEFINITION. Shared memory in its canonical form, the store buffer, and what one processor reads through both
(20_memory.md rules R80, R81, R91, R94, R96 to R100). Memory and the store buffer are by physical address. -/

namespace Sys2Proof.Machine

/-! ## Shared memory -/

/-- What an address that memory does not list reads as (log 4). -/
def unlistedByte : Byte := 0#8

/-- The byte of shared memory at a physical address. -/
def Memory.read : List Host.Cell → Nat → Byte
  | [], _ => unlistedByte
  | (k, c) :: m, a => if k = a then c else Memory.read m a

/-- Put a byte in front of the cells above it, unless it is what an unlisted address reads as. -/
def Memory.cons (a : Nat) (b : Byte) (m : List Host.Cell) : List Host.Cell :=
  if b = unlistedByte then m else (a, b) :: m

/-- Write one byte, keeping the canonical form. -/
def Memory.write : List Host.Cell → Nat → Byte → List Host.Cell
  | [], a, b => Memory.cons a b []
  | (k, c) :: m, a, b =>
    if k < a then (k, c) :: Memory.write m a b
    else if k = a then Memory.cons a b m
    else Memory.cons a b ((k, c) :: m)

/-- Write bytes from an address upwards. -/
def Memory.writeBytes : List Host.Cell → Nat → List Byte → List Host.Cell
  | m, _, [] => m
  | m, a, b :: bs => Memory.writeBytes (Memory.write m a b) (a + 1) bs

/-- Canonical from an address upwards: addresses rise strictly and no cell holds what it would read as unlisted. -/
def Memory.wfFrom : Nat → List Host.Cell → Bool
  | _, [] => true
  | lo, (k, b) :: m => decide (lo ≤ k) && decide (b ≠ unlistedByte) && Memory.wfFrom (k + 1) m

/-- The canonical form of memory. -/
def Memory.wf (m : List Host.Cell) : Bool := Memory.wfFrom 0 m

/-! ## Little-endian bytes (R81) -/

/-- The number that bytes spell, the first byte least significant. -/
def leNat : List Byte → Nat
  | [] => 0
  | b :: bs => b.toNat + 256 * leNat bs

/-- A value of `w` bits from its bytes. -/
def ofBytes (w : Nat) (bs : List Byte) : BitVec w := BitVec.ofNat w (leNat bs)

/-- The first `n` bytes of a value, least significant first. -/
def toBytes {w : Nat} (n : Nat) (v : BitVec w) : List Byte :=
  (List.range n).map fun i => v.extractLsb' (8 * i) 8

/-! ## The store buffer (R96) -/

/-- The byte an entry stores at an address, if it covers the address. -/
def SbEntry.byteAt : SbEntry → Nat → Option Byte
  | .store _ base bytes, a => if base ≤ a then bytes[a - base]? else none
  | .sf, _ => none

/-- Is it a store-fence marker? -/
def SbEntry.isFence : SbEntry → Bool
  | .sf => true
  | .store .. => false

/-- Is it an ordinary store? -/
def SbEntry.isOrdinary : SbEntry → Bool
  | .store nonTemporal _ _ => !nonTemporal
  | .sf => false

/-- Do two entries cover a byte in common? -/
def SbEntry.overlaps : SbEntry → SbEntry → Bool
  | .store _ a as, .store _ b bs => decide (a < b + bs.length) && decide (b < a + as.length)
  | _, _ => false

/-- The byte of the newest entry that covers an address (R96 (b)); the oldest entry stands first. -/
def sbLookup : List SbEntry → Nat → Option Byte
  | [], _ => none
  | e :: es, a =>
    match sbLookup es a with
    | some b => some b
    | none => e.byteAt a

/-! ## Linear and physical addresses (R94) -/

/-- The page range that holds a page, by number. -/
def State.rangeOf (s : State) (page : Nat) : Option PageRange :=
  s.plat.pages.find? fun r => decide (r.lo ≤ page) && decide (page ≤ r.hi)

/-- The physical page of a page: itself where no range holds it. -/
def State.frameOf (s : State) (page : Nat) : Nat :=
  (match s.rangeOf page with
    | none => page
    | some r => r.frame + (page - r.lo)) % 0x100000

/-- The physical address of a linear one (R94, "ok(physical bytes)"; log 18). -/
def State.phys (s : State) (a : Nat) : Nat := s.frameOf (a / 4096) * 4096 + a % 4096

/-- `MEMTYPE` of the physical address of a linear one: write-back where no range says otherwise (R92; log 9). -/
def State.memType (s : State) (a : Nat) : MemType :=
  match s.plat.memTypes.find? fun r => decide (r.lo ≤ s.phys a) && decide (s.phys a ≤ r.hi) with
  | none => .writeBack
  | some r => r.type

/-! ## What the processor reads and stores -/

/-- The byte the processor reads at a physical address (R96 (b)): its own newest pending store of it, else memory. -/
def State.physByte (s : State) (p : Nat) : Byte :=
  match sbLookup s.sb p with
  | some b => b
  | none => Memory.read s.mem p

/-- The byte the processor reads at a linear address. -/
def State.byte (s : State) (a : Nat) : Byte := s.physByte (s.phys a)

/-- The `n` bytes the processor reads from a linear address upwards. -/
def State.bytes (s : State) (a n : Nat) : List Byte := (List.range n).map fun i => s.byte (a + i)

/-- The atomic groups of a store (R91): whole when of 1, 2, 4 or 8 bytes and aligned, two halves when of 16 and
aligned, else single bytes, lowest address first (log 7). An aligned group lies in one page. -/
def State.storeGroups (s : State) (nonTemporal : Bool) (a : Nat) (bytes : List Byte) : List SbEntry :=
  let n := bytes.length
  if (n == 1 || n == 2 || n == 4 || n == 8) && a % n == 0 then [.store nonTemporal (s.phys a) bytes]
  else if n == 16 && a % 16 == 0 then
    [.store nonTemporal (s.phys a) (bytes.take 8), .store nonTemporal (s.phys (a + 8)) (bytes.drop 8)]
  else bytes.mapIdx fun i b => .store nonTemporal (s.phys (a + i)) [b]

/-- The physical range that an entry stores to. -/
def SbEntry.extent : SbEntry → Option (Nat × Nat)
  | .store _ a bytes => some (a, bytes.length)
  | .sf => none

/-- A store's effect (R96 (a)): its groups enter the buffer, and their bytes count as stored (R103; log 13). -/
def State.storeBytes (s : State) (nonTemporal : Bool) (a : Nat) (bytes : List Byte) : State :=
  { s with
    sb := s.sb ++ s.storeGroups nonTemporal a bytes
    stored := (s.storeGroups nonTemporal a bytes).filterMap SbEntry.extent ++ s.stored }

/-- Store bytes one at a time, at a linear address plus an offset each: the masked stores and the FXSAVE image (R91). -/
def State.storeEach (s : State) (nonTemporal : Bool) (a : Nat) (bytes : List (Nat × Byte)) : State :=
  bytes.foldl (fun t ob => t.storeBytes nonTemporal (a + ob.1) [ob.2]) s

/-- May an entry drain past those before it (R96 (c))? -/
def SbEntry.mayPass (e : SbEntry) (earlier : List SbEntry) : Bool :=
  !e.isFence && earlier.all fun f => !f.isFence && !f.overlaps e && !(e.isOrdinary && f.isOrdinary)

/-- Markers that nothing precedes are removed (R96 (c), last sentence; log 30). -/
def dropFences (sb : List SbEntry) : List SbEntry := sb.dropWhile SbEntry.isFence

/-- Write an entry's bytes to shared memory (R96 (d)). -/
def SbEntry.apply (m : List Host.Cell) : SbEntry → List Host.Cell
  | .store _ a bytes => Memory.writeBytes m a bytes
  | .sf => m

/-- Drain the entry at a position of the buffer, if R96 (c) lets it drain. -/
def State.drainAt (s : State) (i : Nat) : State :=
  match s.sb[i]? with
  | none => s
  | some e =>
    if e.mayPass (s.sb.take i) then { s with mem := e.apply s.mem, sb := dropFences (s.sb.eraseIdx i) } else s

/-- What drains before a step (R96 (c), "at any time"): the entries a free choice names, one after another (log 6). -/
def State.drain (s : State) : State :=
  match s.sb with
  | [] => s
  | _ :: _ => { (Config.drainChoice s.oracle).foldl State.drainAt s with oracle := s.oracle + 1 }

/-- The whole buffer drained in its own order, which R96 (c) always allows (R100). -/
def State.drainAll (s : State) : State :=
  { s with mem := s.sb.foldl SbEntry.apply s.mem, sb := [] }

/-- SFENCE's marker (R98): it goes in behind what is pending, and vanishes at once where nothing is (R96 (c)). -/
def State.fenceStores (s : State) : State := { s with sb := dropFences (s.sb ++ [.sf]) }

end Sys2Proof.Machine
end

