-- ==== Sys2Proof/Machine/Ops.lean ====
section
/-! DEFINITION. The results of an instruction's meaning, taking an exception and coming back from one, the
availability checks of the exception classes, and the register file operations. -/

namespace Sys2Proof.Machine

/-! ## Exceptions -/

/-- A raised exception (60_exceptions.md rule R660): its error code, the linear address of a #PF, and the numeric
conditions that were detected (rule R674). -/
structure Raise where
  exn        : Exn
  code       : Option Dword
  addr       : Option Dword
  conditions : BitVec 6
deriving DecidableEq, Repr

/-- An exception without error code: #UD, #NM, #MF. -/
def Raise.plain (e : Exn) : Raise := { exn := e, code := none, addr := none, conditions := 0#6 }

/-- An exception with error code 0: #GP(0), #SS(0), #AC(0). -/
def Raise.zero (e : Exn) : Raise := { exn := e, code := some 0#32, addr := none, conditions := 0#6 }

/-- What ends a meaning before its effect. -/
inductive Stop where
  | raise (x : Raise)
  | refuse (r : Refusal)
deriving DecidableEq, Repr

/-- The result of a part of a meaning. -/
abbrev Res (α : Type) := Except Stop α

/-- Raise an exception. -/
def raise {α : Type} (x : Raise) : Res α := .error (.raise x)

/-- Taking an exception (60_exceptions.md rules R661, R662, R674): the outcome is recorded with `eip` at the
instruction; a page fault's address goes to CR2; detected numeric conditions are ORed into MXCSR; nothing else
changes, `eip` included. -/
def takeException (s : State) (x : Raise) : State :=
  { s with
    raised := some { exn := x.exn, errorCode := x.code, eip := s.eip, faultAddr := x.addr }
    cr2 := x.addr.getD s.cr2
    mxcsr := mxOr s.mxcsr x.conditions }

/-- The host's delivery of the exception in `raised`, where `DELIVER` is not its default (60_exceptions.md rule R662; log 5):
the integer core and what is pushed are the free choice of `Config.deliver`, each pushed byte an ordinary store; the x87, MMX
and XMM state, MXCSR, CR0, CR2 and CR4 stay as they are. -/
def State.deliver (s : State) : State :=
  let core := (Config.deliver s).1
  { s with
    gpr := core.gpr, eip := core.eip, eflags := core.eflags, cpl := core.cpl, segs := core.segs, raised := none }.storeEach
      false 0 (Config.deliver s).2

/-- The return from an exception's handler (60_exceptions.md rule R677): execution goes on at the saved `eip`. No
instruction of these extensions does it; it is what the host's IRET does to this state. -/
def returnFromException (s : State) : State :=
  match s.raised with
  | some r => { s with eip := r.eip, raised := none }
  | none => s

/-- The outcome of a meaning that started in `s`. -/
def settle (s : State) (r : Res State) : Host.Outcome State Fault Refusal :=
  match r with
  | .ok t => .next t
  | .error (.raise x) => .next (takeException s x)
  | .error (.refuse r) => .refused r

/-! ## Availability checks (60_exceptions.md rules R663 to R671) -/

/-- Raise `e` if `b`. -/
def raiseIf (b : Bool) (e : Exn) : Res Unit := if b then raise (.plain e) else .ok ()

/-- Class M (R663): feature and EM, then TS, then a pending x87 exception. -/
def checkM (x : Ext) (s : State) : Res Unit := do
  raiseIf (!s.plat.ext.has x || s.em) .ud
  raiseIf s.ts .nm
  raiseIf s.es .mf

/-- Classes X, F and S (R664, R665, R667): feature, EM and OSFXSR, then TS. -/
def checkX (x : Ext) (s : State) : Res Unit := do
  raiseIf (!s.plat.ext.has x || s.em || !s.osfxsr) .ud
  raiseIf s.ts .nm

/-- Class XM (R666): as class X, then a pending x87 exception. -/
def checkXM (x : Ext) (s : State) : Res Unit := do
  checkX x s
  raiseIf s.es .mf

/-- Class FX (R668): the feature FXSR, then TS or EM. -/
def checkFX (s : State) : Res Unit := do
  raiseIf (!s.plat.ext.has .sse) .ud
  raiseIf (s.ts || s.em) .nm

/-- Classes H and C (R669, R670): the feature alone. -/
def checkH (x : Ext) (s : State) : Res Unit := raiseIf (!s.plat.ext.has x) .ud

/-! ## Registers -/

/-- `r32[i]` (10_state.md rule R30). -/
def State.readGpr (s : State) (i : Reg) : Dword := s.gpr.get i.toFin

/-- Write all of `r32[i]` (R30). -/
def State.writeGpr (s : State) (i : Reg) (v : Dword) : State := { s with gpr := s.gpr.set i.toNat v i.isLt }

/-- `xmm[i]` (R37). -/
def State.readXmm (s : State) (i : Reg) : Xmm := s.xmm.get i.toFin

/-- Write all of `xmm[i]` (R37). -/
def State.writeXmm (s : State) (i : Reg) (v : Xmm) : State := { s with xmm := s.xmm.set i.toNat v i.isLt }

/-- The physical x87 register `i` (R33). -/
def State.readFpr (s : State) (i : Reg) : Fpr := s.fpr.get i.toFin

/-- Write a physical x87 register (R33). -/
def State.writeFpr (s : State) (i : Reg) (v : Fpr) : State := { s with fpr := s.fpr.set i.toNat v i.isLt }

/-- `mm[i]`, bits 63:0 of `fpr[i]` (R34). -/
def State.readMm (s : State) (i : Reg) : Qword := (s.readFpr i).extractLsb' 0 64

/-- Write `mm[i]`, with the side effects of an MMX-register instruction (R34, R35): bits 79:64 of the register become
ones, every tag valid, `top` zero. -/
def State.writeMm (s : State) (i : Reg) (v : Qword) : State := (s.writeFpr i (0xFFFF#16 ++ v)).touchX87

/-- The segment register a name stands for (R46). -/
def State.segment (s : State) : Seg → Segment
  | .es => s.segs.es
  | .cs => s.segs.cs
  | .ss => s.segs.ss
  | .ds => s.segs.ds
  | .fs => s.segs.fs
  | .gs => s.segs.gs

end Sys2Proof.Machine
end

