-- ==== Sys2Proof/Machine/Operands.lean ====
section
/-! DEFINITION. Memory operands: the effective and the linear address, the checks of an access, loads and stores; and
the register-or-memory operand forms (20_memory.md rules R82 to R91; 30_encoding.md rules R124 to R130). -/

namespace Sys2Proof.Machine

/-- `EA = base + index * 2^scale + disp` modulo 2^32 (30_encoding.md rules R125, R126). -/
def State.effAddr (s : State) (m : MemOp) : Dword :=
  (match m.base with | some b => s.readGpr b | none => 0#32) +
    (match m.index with | some i => s.readGpr i <<< m.scale.toNat | none => 0#32) + m.disp

/-- `LA(seg, EA)` (20_memory.md rule R82). -/
def State.linear (s : State) (seg : Seg) (ea : Dword) : Nat := ((s.segment seg).base + ea).toNat

/-- What an operand's alignment does: must be 16-byte aligned (R85, R86, R89); under the alignment check (R87, R88);
neither (CLFLUSH, the masked stores: R88, R670). -/
inductive Align where
  | must16 | checked | free
deriving DecidableEq, Repr

/-- Is the byte at an offset outside the segment's limit (R83 step 2)? An offset past 2^32 counts as the last one, for
the operand is then refused by step 5 (log 17). -/
def Segment.outside (g : Segment) (offset : Nat) : Bool := decide (g.limit.toNat < min offset 0xFFFFFFFF)

/-- Does the segment forbid the access kind (60_exceptions.md rule R660; log 17)? -/
def Segment.forbids (g : Segment) (write : Bool) : Bool := if write then !g.writable else !g.readable

/-- The error code of a page fault at a linear address, if there is one: the page is not present, or the current `cpl` has
no right to the access kind (20_memory.md rule R83 step 3; 60_exceptions.md rule R660: bit 0 protection, bit 1 write, bit 2
`cpl` 3; log 18). -/
def State.pageFault (s : State) (kind : AccessKind) (a : Nat) : Option Dword :=
  match s.rangeOf (a / 4096) with
  | none => none
  | some p =>
    if p.present && p.rights.contains (s.cpl, kind) then none
    else
      some ((if p.present then 1#32 else 0#32) ||| (if kind = .write then 2#32 else 0#32) |||
        (if s.cpl = 3#2 then 4#32 else 0#32))

/-- The lowest byte of an access that faults in paging (60_exceptions.md rule R672): error code and linear address. -/
def State.firstPageFault (s : State) (kind : AccessKind) (a : Nat) (offs : List Nat) : Option (Dword × Nat) :=
  offs.findSome? fun o => (s.pageFault kind ((a + o) % 0x100000000)).map fun c => (c, (a + o) % 0x100000000)

/-- The checks of an access to the bytes at some offsets from `seg:ea`, in the order of R83; the linear address of
offset 0 if none fails. An access to no byte checks nothing (60_exceptions.md rule R672). After them, a byte that is not in
write-back memory is refused (R92; log 9). -/
def State.checkBytes (s : State) (write : Bool) (al : Align) (seg : Seg) (ea : Dword) (offs : List Nat) : Res Nat :=
  let a := s.linear seg ea
  let g := s.segment seg
  if al = .must16 ∧ a % 16 ≠ 0 then raise (.zero .gp)
  else if offs.any (fun o => g.forbids write || g.outside (ea.toNat + o)) then
    raise (.zero (if seg = .ss then .ss else .gp))
  else
    match s.firstPageFault (if write then .write else .read) a offs with
    | some (code, la) =>
      raise { exn := .pf, code := some code, addr := some (BitVec.ofNat 32 la), conditions := 0#6 }
    | none =>
      if al = .checked ∧ s.acEnabled ∧ a % offs.length ≠ 0 then raise (.zero .ac)
      else if offs.any (fun o => decide (0x100000000 ≤ a + o)) then .error (.refuse .addressWrap)
      else if offs.any (fun o => decide (s.memType (a + o) ≠ .writeBack)) then .error (.refuse .otherMemoryType)
      else .ok a

/-- The checks of an `n`-byte access (R83). -/
def State.checkAccess (s : State) (write : Bool) (al : Align) (m : MemOp) (n : Nat) : Res Nat :=
  s.checkBytes write al m.seg (s.effAddr m) (List.range n)

/-- `MemRead(M, n)` of `w` bits (R81, R83). -/
def State.load (s : State) (al : Align) (m : MemOp) (w : Nat) : Res (BitVec w) := do
  let a ← s.checkAccess false al m (w / 8)
  .ok (ofBytes w (s.bytes a (w / 8)))

/-- `MemWrite(M, n, v)`, or `MemWriteNT`, of all the bits of `v` (R83, R91, R96, R97). -/
def State.store {w : Nat} (s : State) (nonTemporal : Bool) (al : Align) (m : MemOp) (v : BitVec w) : Res State := do
  let a ← s.checkAccess true al m (w / 8)
  .ok (s.storeBytes nonTemporal a (toBytes (w / 8) v))

/-! ## Register or memory -/

/-- `mm/m64`, `mm/m32`: the register's low `w` bits, or `w` bits of memory (R88). -/
def State.mmOrMem (s : State) (w : Nat) : RM → Res (BitVec w)
  | .reg r => .ok ((s.readMm r).setWidth w)
  | .mem m => s.load .checked m w

/-- `xmm/m32`, `xmm/m64`: the register's low `w` bits, or `w` bits of memory (R88). -/
def State.xmmOrMem (s : State) (w : Nat) : RM → Res (BitVec w)
  | .reg r => .ok ((s.readXmm r).setWidth w)
  | .mem m => s.load .checked m w

/-- `xmm/m128`, the memory operand 16-byte aligned (R85, R86). -/
def State.xmmOrMem128 (s : State) : RM → Res Xmm
  | .reg r => .ok (s.readXmm r)
  | .mem m => s.load .must16 m 128

/-- `r32/m32` and `r32/m16`: the register's low `w` bits, or `w` bits of memory (R88). -/
def State.gprOrMem (s : State) (w : Nat) : RM → Res (BitVec w)
  | .reg r => .ok ((s.readGpr r).setWidth w)
  | .mem m => s.load .checked m w

end Sys2Proof.Machine
end

