-- ==== Sys2Proof/Machine/Shared.lean ====
section
/-! DEFINITION. The shapes of meaning that many instructions share: the checks of the class, the operands, the
operation, the write. Each instruction's own definition names its feature, its operation and its operands. -/

namespace Sys2Proof.Machine

/-- The three outcomes of a step over this machine's state. -/
abbrev Result := Host.Outcome State Fault Refusal

/-! ## MMX registers (class M, 60_exceptions.md rule R663) -/

/-- `OP mm, mm/m64` (40_mmx.md rules R200, R202). -/
def mmxOp (x : Ext) (f : Qword → Qword → Qword) (reg : Reg) (rm : RM) (s : State) : Result :=
  settle s do
    checkM x s
    let b ← s.mmOrMem 64 rm
    .ok (s.writeMm reg (f (s.readMm reg) b))

/-- `OP mm, mm/m32`: the three low unpacks, which use the source's low half (R236 to R238). -/
def mmxLowOp (x : Ext) (f : Qword → Qword → Qword) (reg : Reg) (rm : RM) (s : State) : Result :=
  settle s do
    checkM x s
    let b ← s.mmOrMem 32 rm
    .ok (s.writeMm reg (f (s.readMm reg) (b.setWidth 64)))

/-- A shift's count: all 64 bits of the operand, or the immediate (R243, R244). -/
def State.mmCount (s : State) : Count → Res Nat
  | .rm rm => (s.mmOrMem 64 rm).map BitVec.toNat
  | .imm imm => .ok imm.toNat

/-- `OP mm, mm/m64` and `OP mm, imm8`: a shift by a common count (R243, R244). -/
def mmxShift (f : Nat → Qword → Qword) (dst : Reg) (count : Count) (s : State) : Result :=
  settle s do
    checkM .mmx s
    let c ← s.mmCount count
    .ok (s.writeMm dst (f c (s.readMm dst)))

/-! ## XMM registers (classes X and F, R664, R665) -/

/-- `OP xmm, xmm/m128`, no numeric condition. -/
def xmmOp (x : Ext) (f : Xmm → Xmm → Xmm) (reg : Reg) (rm : RM) (s : State) : Result :=
  settle s do
    checkX x s
    let b ← s.xmmOrMem128 rm
    .ok (s.writeXmm reg (f (s.readXmm reg) b))

/-- A shift's count: bits 63:0 of the operand, or the immediate (46_sse2_int128_ext_pack_logic_shift.md rule R572). -/
def State.xmmCount (s : State) : Count → Res Nat
  | .rm rm => (s.xmmOrMem128 rm).map fun b => (b.setWidth 64).toNat
  | .imm imm => .ok imm.toNat

/-- A shift by a common count (R572). -/
def xmmShift (f : Nat → Xmm → Xmm) (dst : Reg) (count : Count) (s : State) : Result :=
  settle s do
    checkX .sse2 s
    let c ← s.xmmCount count
    .ok (s.writeXmm dst (f c (s.readXmm dst)))

/-- `MOVxx xmm, xmm/m128` (R334, R336). -/
def xmmLoad (x : Ext) (al : Align) (reg : Reg) (rm : RM) (s : State) : Result :=
  settle s do
    checkX x s
    let v ← match rm with
      | .reg r => .ok (s.readXmm r)
      | .mem m => s.load al m 128
    .ok (s.writeXmm reg v)

/-- `MOVxx xmm/m128, xmm` (R335, R337). -/
def xmmStore (x : Ext) (al : Align) (reg : Reg) (rm : RM) (s : State) : Result :=
  settle s do
    checkX x s
    match rm with
    | .reg r => .ok (s.writeXmm r (s.readXmm reg))
    | .mem m => s.store false al m (s.readXmm reg)

/-- `MOVSS` and `MOVSD xmm, xmm/mem`: from a register lane 0 alone, from memory with zeros above (R338, R457). -/
def scalarLoad (x : Ext) (w : Nat) (reg : Reg) (rm : RM) (s : State) : Result :=
  settle s do
    checkX x s
    match rm with
    | .reg r => .ok (s.writeXmm reg (setLane w 0 (lane w 0 (s.readXmm r)) (s.readXmm reg)))
    | .mem m => do
      let v ← s.load .checked m w
      .ok (s.writeXmm reg (v.setWidth 128))

/-- `MOVSS` and `MOVSD xmm/mem, xmm`: lane 0 alone (R339, R458). -/
def scalarStore (x : Ext) (w : Nat) (reg : Reg) (rm : RM) (s : State) : Result :=
  settle s do
    checkX x s
    match rm with
    | .reg r => .ok (s.writeXmm r (setLane w 0 (lane w 0 (s.readXmm reg)) (s.readXmm r)))
    | .mem m => s.store false .checked m (lane w 0 (s.readXmm reg))

/-- `MOVLPS`, `MOVHPS` and their PD forms, load: quadword `h` of the register (R340, R342). -/
def halfLoad (x : Ext) (h : Nat) (reg : Reg) (m : MemOp) (s : State) : Result :=
  settle s do
    checkX x s
    let v ← s.load .checked m 64
    .ok (s.writeXmm reg (setLane 64 h v (s.readXmm reg)))

/-- The same, store (R341, R343). -/
def halfStore (x : Ext) (h : Nat) (reg : Reg) (m : MemOp) (s : State) : Result :=
  settle s do
    checkX x s
    s.store false .checked m (lane 64 h (s.readXmm reg))

/-- A non-temporal store of an XMM register, 16-byte aligned (R430, R652, R653). -/
def xmmStoreNt (x : Ext) (reg : Reg) (m : MemOp) (s : State) : Result :=
  settle s do
    checkX x s
    s.store true .must16 m (s.readXmm reg)

/-- The byte offsets that a mask selects, by the top bit of each of its bytes (R428, R654). -/
def selectedOffsets {k : Nat} (mask : BitVec k) : List Nat :=
  (List.range (k / 8)).filter fun j => (lane 8 j mask).msb

/-- A masked store at `seg:[EDI]`: the selected bytes alone are checked and stored (R428, R654, 92_eei_decisions.md
D23; log 22). -/
def maskedStore {k : Nat} (data mask : BitVec k) (seg : Seg) (s : State) : Res State := do
  let offs := selectedOffsets mask
  let a ← s.checkBytes true .free seg (s.readGpr 7#3) offs
  .ok (s.storeEach true a (offs.map fun j => (j, lane 8 j data)))

/-! ## Numeric conditions (41_fp_numerics.md rule R294, 60_exceptions.md rule R674) -/

/-- The pre-computation conditions: invalid, denormal operand, divide by zero. -/
def preConditions : BitVec 6 := 0x07#6

/-- The SIMD floating-point fault of R674, with the conditions whose flags it sets. -/
def numericFault (s : State) (c : BitVec 6) : Raise :=
  { exn := if s.osxmmexcpt then .xm else .ud, code := none, addr := none, conditions := c }

/-- `simd_fp_commit` (R294), given the union of the lanes' detected sets: a fault on an unmasked pre-computation
condition, then on an unmasked post-computation one; else the state with the conditions in MXCSR's flags. -/
def commit (s : State) (c : BitVec 6) : Res State :=
  let unmasked := ~~~mxMasks s.mxcsr
  if c &&& preConditions &&& unmasked ≠ 0#6 then raise (numericFault s (c &&& preConditions))
  else if c &&& ~~~preConditions &&& unmasked ≠ 0#6 then raise (numericFault s c)
  else .ok { s with mxcsr := mxOr s.mxcsr c }

/-- The union of the lanes' detected sets. -/
def union {n : Nat} (ls : List (Lane n)) : BitVec 6 := ls.foldr (fun l c => l.conditions ||| c) 0#6

/-- One-lane operations, given MXCSR, the destination's lane and the source's. -/
abbrev LaneOp (n : Nat) := Dword → BitVec n → BitVec n → Lane n

/-- A packed operation's lanes. -/
def packedLanes {n : Nat} (op : LaneOp n) (mx : Dword) (a b : Xmm) : List (Lane n) :=
  (List.range (128 / n)).map fun i => op mx (lane n i a) (lane n i b)

/-- `OPPS`, `OPPD xmm, xmm/m128`. -/
def fpPacked {n : Nat} (x : Ext) (op : LaneOp n) (reg : Reg) (rm : RM) (s : State) : Result :=
  settle s do
    checkX x s
    let b ← s.xmmOrMem128 rm
    let r := packedLanes op s.mxcsr (s.readXmm reg) b
    let t ← commit s (union r)
    .ok (t.writeXmm reg (ofLanes 128 (r.map Lane.bits)))

/-- `OPSS`, `OPSD xmm, xmm/mem`: lane 0, the others kept. -/
def fpScalar {n : Nat} (x : Ext) (op : LaneOp n) (reg : Reg) (rm : RM) (s : State) : Result :=
  settle s do
    checkX x s
    let b ← s.xmmOrMem n rm
    let r := op s.mxcsr (lane n 0 (s.readXmm reg)) b
    let t ← commit s r.conditions
    .ok (t.writeXmm reg (setLane n 0 r.bits (s.readXmm reg)))

/-- An operation on the source lane alone. -/
def unary {n : Nat} (f : Dword → BitVec n → Lane n) : LaneOp n := fun mx _ b => f mx b

/-- `COMISx`, `UCOMISx xmm, xmm/mem` (R289). -/
def fpCompare {n : Nat} (x : Ext) (f : Fmt n) (anyNan : Bool) (reg : Reg) (rm : RM) (s : State) : Result :=
  settle s do
    checkX x s
    let b ← s.xmmOrMem n rm
    let r := fcomi f anyNan s.mxcsr (lane n 0 (s.readXmm reg)) b
    let t ← commit s r.2
    .ok { t with eflags := compareFlags t.eflags r.1 }

/-! ## Conversions -/

/-- The lanes of a conversion of the first `c` lanes of a source. -/
def convertLanes {m n k : Nat} (c : Nat) (f : BitVec m → Lane n) (v : BitVec k) : List (Lane n) :=
  (List.range c).map fun i => f (lane m i v)

/-- The lanes of a value that a conversion replaces, from lane 0 up. -/
def setLanes {n k : Nat} (xs : List (BitVec n)) (v : BitVec k) : BitVec k :=
  build k n fun i => match xs[i]? with
    | some x => x
    | none => lane n i v

/-- A packed source of `w` bits: 16 aligned bytes, or fewer (R84, R86, R88). -/
def State.packedSource (s : State) (w : Nat) (rm : RM) : Res (BitVec w) :=
  if w = 128 then (s.xmmOrMem128 rm).map (BitVec.setWidth w) else s.xmmOrMem w rm

/-- `CVTxx xmm, xmm/mem` with a packed source of `w` bits and `c` lanes; the destination's other bits become zero. -/
def cvtPacked {m n : Nat} (w c : Nat) (f : Dword → BitVec m → Lane n) (reg : Reg) (rm : RM) (s : State) : Result :=
  settle s do
    checkX .sse2 s
    let b ← s.packedSource w rm
    let r := convertLanes c (f s.mxcsr) b
    let t ← commit s (union r)
    .ok (t.writeXmm reg (ofLanes 128 (r.map Lane.bits)))

/-- `CVTxx xmm, xmm/mem` between scalars: lane 0, the other bits kept. -/
def cvtScalar {m n : Nat} (f : Dword → BitVec m → Lane n) (reg : Reg) (rm : RM) (s : State) : Result :=
  settle s do
    checkX .sse2 s
    let b ← s.xmmOrMem m rm
    let r := f s.mxcsr b
    let t ← commit s r.conditions
    .ok (t.writeXmm reg (setLane n 0 r.bits (s.readXmm reg)))

/-- `CVTxx2SI r32, xmm/mem` (R373, R512). -/
def cvtToGpr {m : Nat} (x : Ext) (f : Dword → BitVec m → Lane 32) (reg : Reg) (rm : RM) (s : State) : Result :=
  settle s do
    checkX x s
    let b ← s.xmmOrMem m rm
    let r := f s.mxcsr b
    let t ← commit s r.conditions
    .ok (t.writeGpr reg r.bits)

/-- `CVTSI2xx xmm, r32/m32` (R372, R514). -/
def cvtFromGpr {n : Nat} (x : Ext) (f : Dword → Dword → Lane n) (reg : Reg) (rm : RM) (s : State) : Result :=
  settle s do
    checkX x s
    let b ← s.gprOrMem 32 rm
    let r := f s.mxcsr b
    let t ← commit s r.conditions
    .ok (t.writeXmm reg (setLane n 0 r.bits (s.readXmm reg)))

/-- `CVTxx2PI mm, xmm/mem` with a source of `w` bits (class XM; R370, R502). -/
def cvtToMm {m : Nat} (x : Ext) (w : Nat) (f : Dword → BitVec m → Lane 32) (reg : Reg) (rm : RM) (s : State) : Result :=
  settle s do
    checkXM x s
    let b ← s.packedSource w rm
    let r := convertLanes 2 (f s.mxcsr) b
    let t ← commit s (union r)
    .ok (t.writeMm reg (ofLanes 64 (r.map Lane.bits)))

/-- Conversion to integer by MXCSR's rounding control. -/
def toIntRounded {n : Nat} (f : Fmt n) (mx : Dword) (x : BitVec n) : Lane 32 := f2i f mx (mxRc mx) x

/-- Conversion to integer by truncation. -/
def toIntTruncated {n : Nat} (f : Fmt n) (mx : Dword) (x : BitVec n) : Lane 32 := f2i f mx 3#2 x

end Sys2Proof.Machine
end

