-- ==== Sys2Proof/Machine/MmxArith.lean ====
section
/-! DEFINITION. The meanings of the instructions of:
MMX data transfer, arithmetic and comparison (40_mmx.md). -/

namespace Sys2Proof.Machine

/-- `MOVD mm, r/m32` (R203). -/
def execMovdMmLoad (reg : Reg) (rm : RM) (s : State) : Result :=
  settle s do
    checkM .mmx s
    let x ← s.gprOrMem 32 rm
    .ok (s.writeMm reg (x.setWidth 64))

/-- `MOVD r/m32, mm` (R204). -/
def execMovdMmStore (reg : Reg) (rm : RM) (s : State) : Result :=
  settle s do
    checkM .mmx s
    let x := (s.readMm reg).setWidth 32
    let t ← match rm with
      | .reg r => .ok (s.writeGpr r x)
      | .mem m => s.store false .checked m x
    .ok t.touchX87

/-- MOVD, by its direction (R203, R204). -/
def execMovdMm (dir : Dir) (reg : Reg) (rm : RM) (s : State) : Result :=
  match dir with
  | .load => execMovdMmLoad reg rm s
  | .store => execMovdMmStore reg rm s

/-- `MOVQ mm, mm/m64` (R205). -/
def execMovqMmLoad (reg : Reg) (rm : RM) (s : State) : Result :=
  settle s do
    checkM .mmx s
    let v ← s.mmOrMem 64 rm
    .ok (s.writeMm reg v)

/-- `MOVQ mm/m64, mm` (R206). -/
def execMovqMmStore (reg : Reg) (rm : RM) (s : State) : Result :=
  settle s do
    checkM .mmx s
    match rm with
    | .reg r => .ok (s.writeMm r (s.readMm reg))
    | .mem m => do
      let t ← s.store false .checked m (s.readMm reg)
      .ok t.touchX87

/-- MOVQ, by its direction (R205, R206). -/
def execMovqMm (dir : Dir) (reg : Reg) (rm : RM) (s : State) : Result :=
  match dir with
  | .load => execMovqMmLoad reg rm s
  | .store => execMovqMmStore reg rm s

/-- `PADDB mm, mm/m64` (R207). -/
def execPaddbMm (reg : Reg) (rm : RM) (s : State) : Result := mmxOp .mmx (packedAdd 8) reg rm s

/-- `PADDW mm, mm/m64` (R208). -/
def execPaddwMm (reg : Reg) (rm : RM) (s : State) : Result := mmxOp .mmx (packedAdd 16) reg rm s

/-- `PADDD mm, mm/m64` (R209). -/
def execPadddMm (reg : Reg) (rm : RM) (s : State) : Result := mmxOp .mmx (packedAdd 32) reg rm s

/-- `PADDSB mm, mm/m64` (R210). -/
def execPaddsbMm (reg : Reg) (rm : RM) (s : State) : Result := mmxOp .mmx (packedAddS 8) reg rm s

/-- `PADDSW mm, mm/m64` (R211). -/
def execPaddswMm (reg : Reg) (rm : RM) (s : State) : Result := mmxOp .mmx (packedAddS 16) reg rm s

/-- `PADDUSB mm, mm/m64` (R212). -/
def execPaddusbMm (reg : Reg) (rm : RM) (s : State) : Result := mmxOp .mmx (packedAddUS 8) reg rm s

/-- `PADDUSW mm, mm/m64` (R213). -/
def execPadduswMm (reg : Reg) (rm : RM) (s : State) : Result := mmxOp .mmx (packedAddUS 16) reg rm s

/-- `PSUBB mm, mm/m64` (R214). -/
def execPsubbMm (reg : Reg) (rm : RM) (s : State) : Result := mmxOp .mmx (packedSub 8) reg rm s

/-- `PSUBW mm, mm/m64` (R215). -/
def execPsubwMm (reg : Reg) (rm : RM) (s : State) : Result := mmxOp .mmx (packedSub 16) reg rm s

/-- `PSUBD mm, mm/m64` (R216). -/
def execPsubdMm (reg : Reg) (rm : RM) (s : State) : Result := mmxOp .mmx (packedSub 32) reg rm s

/-- `PSUBSB mm, mm/m64` (R217). -/
def execPsubsbMm (reg : Reg) (rm : RM) (s : State) : Result := mmxOp .mmx (packedSubS 8) reg rm s

/-- `PSUBSW mm, mm/m64` (R218). -/
def execPsubswMm (reg : Reg) (rm : RM) (s : State) : Result := mmxOp .mmx (packedSubS 16) reg rm s

/-- `PSUBUSB mm, mm/m64` (R219). -/
def execPsubusbMm (reg : Reg) (rm : RM) (s : State) : Result := mmxOp .mmx (packedSubUS 8) reg rm s

/-- `PSUBUSW mm, mm/m64` (R220). -/
def execPsubuswMm (reg : Reg) (rm : RM) (s : State) : Result := mmxOp .mmx (packedSubUS 16) reg rm s

/-- `PMULLW mm, mm/m64` (R221). -/
def execPmullwMm (reg : Reg) (rm : RM) (s : State) : Result := mmxOp .mmx (packedMulLow 16) reg rm s

/-- `PMULHW mm, mm/m64` (R222). -/
def execPmulhwMm (reg : Reg) (rm : RM) (s : State) : Result := mmxOp .mmx (packedMulHighS 16) reg rm s

/-- `PMADDWD mm, mm/m64` (R223). -/
def execPmaddwdMm (reg : Reg) (rm : RM) (s : State) : Result := mmxOp .mmx packedMulAdd reg rm s

/-- `PCMPEQB mm, mm/m64` (R224). -/
def execPcmpeqbMm (reg : Reg) (rm : RM) (s : State) : Result := mmxOp .mmx (packedEq 8) reg rm s

/-- `PCMPEQW mm, mm/m64` (R225). -/
def execPcmpeqwMm (reg : Reg) (rm : RM) (s : State) : Result := mmxOp .mmx (packedEq 16) reg rm s

/-- `PCMPEQD mm, mm/m64` (R226). -/
def execPcmpeqdMm (reg : Reg) (rm : RM) (s : State) : Result := mmxOp .mmx (packedEq 32) reg rm s

/-- `PCMPGTB mm, mm/m64` (R227). -/
def execPcmpgtbMm (reg : Reg) (rm : RM) (s : State) : Result := mmxOp .mmx (packedGt 8) reg rm s

/-- `PCMPGTW mm, mm/m64` (R228). -/
def execPcmpgtwMm (reg : Reg) (rm : RM) (s : State) : Result := mmxOp .mmx (packedGt 16) reg rm s

/-- `PCMPGTD mm, mm/m64` (R229). -/
def execPcmpgtdMm (reg : Reg) (rm : RM) (s : State) : Result := mmxOp .mmx (packedGt 32) reg rm s

end Sys2Proof.Machine
end

