-- ==== Sys2Proof/Machine/MmxPack.lean ====
section
/-! DEFINITION. The meanings of the instructions of:
MMX pack, unpack, logic, shift and EMMS (40_mmx_pack_logic_shift.md). -/

namespace Sys2Proof.Machine

/-- `PACKSSWB mm, mm/m64` (R230). -/
def execPacksswbMm (reg : Reg) (rm : RM) (s : State) : Result := mmxOp .mmx (packS 8) reg rm s

/-- `PACKSSDW mm, mm/m64` (R231). -/
def execPackssdwMm (reg : Reg) (rm : RM) (s : State) : Result := mmxOp .mmx (packS 16) reg rm s

/-- `PACKUSWB mm, mm/m64` (R232). -/
def execPackuswbMm (reg : Reg) (rm : RM) (s : State) : Result := mmxOp .mmx (packU 8) reg rm s

/-- `PUNPCKHBW mm, mm/m64` (R233). -/
def execPunpckhbwMm (reg : Reg) (rm : RM) (s : State) : Result := mmxOp .mmx (unpackHigh 8) reg rm s

/-- `PUNPCKHWD mm, mm/m64` (R234). -/
def execPunpckhwdMm (reg : Reg) (rm : RM) (s : State) : Result := mmxOp .mmx (unpackHigh 16) reg rm s

/-- `PUNPCKHDQ mm, mm/m64` (R235). -/
def execPunpckhdqMm (reg : Reg) (rm : RM) (s : State) : Result := mmxOp .mmx (unpackHigh 32) reg rm s

/-- `PUNPCKLBW mm, mm/m32` (R236). -/
def execPunpcklbwMm (reg : Reg) (rm : RM) (s : State) : Result := mmxLowOp .mmx (unpackLow 8) reg rm s

/-- `PUNPCKLWD mm, mm/m32` (R237). -/
def execPunpcklwdMm (reg : Reg) (rm : RM) (s : State) : Result := mmxLowOp .mmx (unpackLow 16) reg rm s

/-- `PUNPCKLDQ mm, mm/m32` (R238). -/
def execPunpckldqMm (reg : Reg) (rm : RM) (s : State) : Result := mmxLowOp .mmx (unpackLow 32) reg rm s

/-- `PAND mm, mm/m64` (R239). -/
def execPandMm (reg : Reg) (rm : RM) (s : State) : Result := mmxOp .mmx (fun a b => a &&& b) reg rm s

/-- `PANDN mm, mm/m64` (R240). -/
def execPandnMm (reg : Reg) (rm : RM) (s : State) : Result := mmxOp .mmx andNot reg rm s

/-- `POR mm, mm/m64` (R241). -/
def execPorMm (reg : Reg) (rm : RM) (s : State) : Result := mmxOp .mmx (fun a b => a ||| b) reg rm s

/-- `PXOR mm, mm/m64` (R242). -/
def execPxorMm (reg : Reg) (rm : RM) (s : State) : Result := mmxOp .mmx (fun a b => a ^^^ b) reg rm s

/-- `PSLLW mm, mm/m64` (R243); `PSLLW mm, imm8` (R244). -/
def execPsllwMm (dst : Reg) (count : Count) (s : State) : Result := mmxShift (packedShl 16) dst count s

/-- `PSLLD mm, mm/m64` (R245); `PSLLD mm, imm8` (R246). -/
def execPslldMm (dst : Reg) (count : Count) (s : State) : Result := mmxShift (packedShl 32) dst count s

/-- `PSLLQ mm, mm/m64` (R247); `PSLLQ mm, imm8` (R248). -/
def execPsllqMm (dst : Reg) (count : Count) (s : State) : Result := mmxShift (packedShl 64) dst count s

/-- `PSRLW mm, mm/m64` (R249); `PSRLW mm, imm8` (R250). -/
def execPsrlwMm (dst : Reg) (count : Count) (s : State) : Result := mmxShift (packedShr 16) dst count s

/-- `PSRLD mm, mm/m64` (R251); `PSRLD mm, imm8` (R252). -/
def execPsrldMm (dst : Reg) (count : Count) (s : State) : Result := mmxShift (packedShr 32) dst count s

/-- `PSRLQ mm, mm/m64` (R253); `PSRLQ mm, imm8` (R254). -/
def execPsrlqMm (dst : Reg) (count : Count) (s : State) : Result := mmxShift (packedShr 64) dst count s

/-- `PSRAW mm, mm/m64` (R255); `PSRAW mm, imm8` (R256). -/
def execPsrawMm (dst : Reg) (count : Count) (s : State) : Result := mmxShift (packedSar 16) dst count s

/-- `PSRAD mm, mm/m64` (R257); `PSRAD mm, imm8` (R258). -/
def execPsradMm (dst : Reg) (count : Count) (s : State) : Result := mmxShift (packedSar 32) dst count s

/-- `EMMS` (R259). -/
def execEmms (s : State) : Result :=
  settle s do
    checkM .mmx s
    .ok s.emptyX87

end Sys2Proof.Machine
end

