-- ==== Sys2Proof/Machine/Sse2Cache.lean ====
section
/-! DEFINITION. The meanings of the instructions of:
SSE2 cacheability control, fences and PAUSE (48_sse2_cache.md). -/

namespace Sys2Proof.Machine

/-- `CLFLUSH m8` (R649). The checks of a one-byte read; no value changes. -/
def execClflush (m : MemOp) (s : State) : Result :=
  settle s do
    checkH .sse2 s
    let _ ← s.checkAccess false .free m 1
    .ok s

/-- `LFENCE` (R650). Loads are in order already (20_memory.md rule R99; log 8). -/
def execLfence (s : State) : Result :=
  settle s do
    checkH .sse2 s
    .ok s

/-- `MFENCE` (R651). The buffer drains within the step (20_memory.md rule R100; log 27). -/
def execMfence (s : State) : Result :=
  settle s do
    checkH .sse2 s
    .ok s.drainAll

/-- `MOVNTPD m128, xmm` (R652). -/
def execMovntpd (reg : Reg) (m : MemOp) (s : State) : Result := xmmStoreNt .sse2 reg m s

/-- `MOVNTDQ m128, xmm` (R653). -/
def execMovntdq (reg : Reg) (m : MemOp) (s : State) : Result := xmmStoreNt .sse2 reg m s

/-- `MASKMOVDQU xmm1, xmm2` (R654). -/
def execMaskmovdqu (reg rm : Reg) (seg : Seg) (s : State) : Result :=
  settle s do
    checkX .sse2 s
    maskedStore (s.readXmm reg) (s.readXmm rm) seg s

/-- `MOVNTI m32, r32` (R655). -/
def execMovnti (reg : Reg) (m : MemOp) (s : State) : Result :=
  settle s do
    checkH .sse2 s
    s.store true .checked m (s.readGpr reg)

/-- `PAUSE` (R656). No feature test (60_exceptions.md rule R669). -/
def execPause (s : State) : Result := settle s (.ok s)

end Sys2Proof.Machine
end

