-- ==== Sys2Proof/Machine/Sse2Conv.lean ====
section
/-! DEFINITION. The meanings of the instructions of:
SSE2 conversions (45_sse2_conversion.md). -/

namespace Sys2Proof.Machine

/-- `CVTPD2PI mm, xmm/m128` (R502). -/
def execCvtpd2pi (reg : Reg) (rm : RM) (s : State) : Result := cvtToMm .sse2 128 (toIntRounded double) reg rm s

/-- `CVTTPD2PI mm, xmm/m128` (R503). -/
def execCvttpd2pi (reg : Reg) (rm : RM) (s : State) : Result := cvtToMm .sse2 128 (toIntTruncated double) reg rm s

/-- `CVTPI2PD xmm, mm/m64` (R504). With a memory source, neither the #MF check nor the x87 side effects (R666). -/
def execCvtpi2pd (reg : Reg) (rm : RM) (s : State) : Result :=
  settle s do
    match rm with
    | .reg r => do
      checkXM .sse2 s
      let v := convertLanes 2 (i2f double s.mxcsr) (s.readMm r)
      .ok (s.writeXmm reg (ofLanes 128 (v.map Lane.bits))).touchX87
    | .mem m => do
      checkX .sse2 s
      let b ← s.load .checked m 64
      let v := convertLanes 2 (i2f double s.mxcsr) b
      .ok (s.writeXmm reg (ofLanes 128 (v.map Lane.bits)))

/-- `CVTPD2DQ xmm, xmm/m128` (R505). -/
def execCvtpd2dq (reg : Reg) (rm : RM) (s : State) : Result := cvtPacked 128 2 (toIntRounded double) reg rm s

/-- `CVTTPD2DQ xmm, xmm/m128` (R506). -/
def execCvttpd2dq (reg : Reg) (rm : RM) (s : State) : Result := cvtPacked 128 2 (toIntTruncated double) reg rm s

/-- `CVTDQ2PD xmm, xmm/m64` (R507). -/
def execCvtdq2pd (reg : Reg) (rm : RM) (s : State) : Result := cvtPacked 64 2 (i2f double) reg rm s

/-- `CVTPS2PD xmm, xmm/m64` (R508). -/
def execCvtps2pd (reg : Reg) (rm : RM) (s : State) : Result := cvtPacked 64 2 s2d reg rm s

/-- `CVTPD2PS xmm, xmm/m128` (R509). -/
def execCvtpd2ps (reg : Reg) (rm : RM) (s : State) : Result := cvtPacked 128 2 d2s reg rm s

/-- `CVTSS2SD xmm, xmm/m32` (R510). -/
def execCvtss2sd (reg : Reg) (rm : RM) (s : State) : Result := cvtScalar s2d reg rm s

/-- `CVTSD2SS xmm, xmm/m64` (R511). -/
def execCvtsd2ss (reg : Reg) (rm : RM) (s : State) : Result := cvtScalar d2s reg rm s

/-- `CVTSD2SI r32, xmm/m64` (R512). -/
def execCvtsd2si (reg : Reg) (rm : RM) (s : State) : Result := cvtToGpr .sse2 (toIntRounded double) reg rm s

/-- `CVTTSD2SI r32, xmm/m64` (R513). -/
def execCvttsd2si (reg : Reg) (rm : RM) (s : State) : Result := cvtToGpr .sse2 (toIntTruncated double) reg rm s

/-- `CVTSI2SD xmm, r32/m32` (R514). -/
def execCvtsi2sd (reg : Reg) (rm : RM) (s : State) : Result := cvtFromGpr .sse2 (i2f double) reg rm s

/-- `CVTDQ2PS xmm, xmm/m128` (R515). -/
def execCvtdq2ps (reg : Reg) (rm : RM) (s : State) : Result := cvtPacked 128 4 (i2f single) reg rm s

/-- `CVTPS2DQ xmm, xmm/m128` (R516). -/
def execCvtps2dq (reg : Reg) (rm : RM) (s : State) : Result := cvtPacked 128 4 (toIntRounded single) reg rm s

/-- `CVTTPS2DQ xmm, xmm/m128` (R517). -/
def execCvttps2dq (reg : Reg) (rm : RM) (s : State) : Result := cvtPacked 128 4 (toIntTruncated single) reg rm s

end Sys2Proof.Machine
end

