-- ==== Sys2Proof/Machine/Sse2Fp.lean ====
section
/-! DEFINITION. The meanings of the instructions of:
SSE2 double-precision instructions (44_sse2_fp.md). -/

namespace Sys2Proof.Machine

/-- `MOVAPD xmm, xmm/m128` (R453). -/
def execMovapdLoad (reg : Reg) (rm : RM) (s : State) : Result := xmmLoad .sse2 .must16 reg rm s

/-- `MOVAPD xmm/m128, xmm` (R454). -/
def execMovapdStore (reg : Reg) (rm : RM) (s : State) : Result := xmmStore .sse2 .must16 reg rm s

/-- MOVAPD, by its direction (R453, R454). -/
def execMovapd (dir : Dir) (reg : Reg) (rm : RM) (s : State) : Result :=
  match dir with
  | .load => execMovapdLoad reg rm s
  | .store => execMovapdStore reg rm s

/-- `MOVUPD xmm, xmm/m128` (R455). -/
def execMovupdLoad (reg : Reg) (rm : RM) (s : State) : Result := xmmLoad .sse2 .checked reg rm s

/-- `MOVUPD xmm/m128, xmm` (R456). -/
def execMovupdStore (reg : Reg) (rm : RM) (s : State) : Result := xmmStore .sse2 .checked reg rm s

/-- MOVUPD, by its direction (R455, R456). -/
def execMovupd (dir : Dir) (reg : Reg) (rm : RM) (s : State) : Result :=
  match dir with
  | .load => execMovupdLoad reg rm s
  | .store => execMovupdStore reg rm s

/-- `MOVSD xmm, xmm/m64` (R457). -/
def execMovsdLoad (reg : Reg) (rm : RM) (s : State) : Result := scalarLoad .sse2 64 reg rm s

/-- `MOVSD xmm/m64, xmm` (R458). -/
def execMovsdStore (reg : Reg) (rm : RM) (s : State) : Result := scalarStore .sse2 64 reg rm s

/-- MOVSD, by its direction (R457, R458). -/
def execMovsd (dir : Dir) (reg : Reg) (rm : RM) (s : State) : Result :=
  match dir with
  | .load => execMovsdLoad reg rm s
  | .store => execMovsdStore reg rm s

/-- `MOVLPD xmm, m64` (R459). -/
def execMovlpdLoad (reg : Reg) (m : MemOp) (s : State) : Result := halfLoad .sse2 0 reg m s

/-- `MOVLPD m64, xmm` (R460). -/
def execMovlpdStore (reg : Reg) (m : MemOp) (s : State) : Result := halfStore .sse2 0 reg m s

/-- MOVLPD, by its direction (R459, R460). -/
def execMovlpd (dir : Dir) (reg : Reg) (m : MemOp) (s : State) : Result :=
  match dir with
  | .load => execMovlpdLoad reg m s
  | .store => execMovlpdStore reg m s

/-- `MOVHPD xmm, m64` (R461). -/
def execMovhpdLoad (reg : Reg) (m : MemOp) (s : State) : Result := halfLoad .sse2 1 reg m s

/-- `MOVHPD m64, xmm` (R462). -/
def execMovhpdStore (reg : Reg) (m : MemOp) (s : State) : Result := halfStore .sse2 1 reg m s

/-- MOVHPD, by its direction (R461, R462). -/
def execMovhpd (dir : Dir) (reg : Reg) (m : MemOp) (s : State) : Result :=
  match dir with
  | .load => execMovhpdLoad reg m s
  | .store => execMovhpdStore reg m s

/-- `MOVMSKPD r32, xmm` (R463). -/
def execMovmskpd (reg rm : Reg) (s : State) : Result :=
  settle s do
    checkX .sse2 s
    .ok (s.writeGpr reg (signMask 64 (s.readXmm rm)))

/-- `ADDPD xmm, xmm/m128` (R464). -/
def execAddpd (reg : Reg) (rm : RM) (s : State) : Result := fpPacked .sse2 (fadd double) reg rm s

/-- `ADDSD xmm, xmm/m64` (R465). -/
def execAddsd (reg : Reg) (rm : RM) (s : State) : Result := fpScalar .sse2 (fadd double) reg rm s

/-- `SUBPD xmm, xmm/m128` (R466). -/
def execSubpd (reg : Reg) (rm : RM) (s : State) : Result := fpPacked .sse2 (fsub double) reg rm s

/-- `SUBSD xmm, xmm/m64` (R467). -/
def execSubsd (reg : Reg) (rm : RM) (s : State) : Result := fpScalar .sse2 (fsub double) reg rm s

/-- `MULPD xmm, xmm/m128` (R468). -/
def execMulpd (reg : Reg) (rm : RM) (s : State) : Result := fpPacked .sse2 (fmul double) reg rm s

/-- `MULSD xmm, xmm/m64` (R469). -/
def execMulsd (reg : Reg) (rm : RM) (s : State) : Result := fpScalar .sse2 (fmul double) reg rm s

/-- `DIVPD xmm, xmm/m128` (R470). -/
def execDivpd (reg : Reg) (rm : RM) (s : State) : Result := fpPacked .sse2 (fdiv double) reg rm s

/-- `DIVSD xmm, xmm/m64` (R471). -/
def execDivsd (reg : Reg) (rm : RM) (s : State) : Result := fpScalar .sse2 (fdiv double) reg rm s

/-- `MAXPD xmm, xmm/m128` (R472). -/
def execMaxpd (reg : Reg) (rm : RM) (s : State) : Result := fpPacked .sse2 (fmax double) reg rm s

/-- `MAXSD xmm, xmm/m64` (R473). -/
def execMaxsd (reg : Reg) (rm : RM) (s : State) : Result := fpScalar .sse2 (fmax double) reg rm s

/-- `MINPD xmm, xmm/m128` (R474). -/
def execMinpd (reg : Reg) (rm : RM) (s : State) : Result := fpPacked .sse2 (fmin double) reg rm s

/-- `MINSD xmm, xmm/m64` (R475). -/
def execMinsd (reg : Reg) (rm : RM) (s : State) : Result := fpScalar .sse2 (fmin double) reg rm s

/-- `SQRTPD xmm, xmm/m128` (R476). -/
def execSqrtpd (reg : Reg) (rm : RM) (s : State) : Result := fpPacked .sse2 (unary (fsqrt double)) reg rm s

/-- `SQRTSD xmm, xmm/m64` (R477). -/
def execSqrtsd (reg : Reg) (rm : RM) (s : State) : Result := fpScalar .sse2 (unary (fsqrt double)) reg rm s

/-- `CMPPD xmm, xmm/m128, imm8` (R478). -/
def execCmppd (reg : Reg) (rm : RM) (pred : Pred) (s : State) : Result := fpPacked .sse2 (fcmp double pred) reg rm s

/-- `CMPSD xmm, xmm/m64, imm8` (R479). -/
def execCmpsd (reg : Reg) (rm : RM) (pred : Pred) (s : State) : Result := fpScalar .sse2 (fcmp double pred) reg rm s

/-- `COMISD xmm, xmm/m64` (R480). -/
def execComisd (reg : Reg) (rm : RM) (s : State) : Result := fpCompare .sse2 double true reg rm s

/-- `UCOMISD xmm, xmm/m64` (R481). -/
def execUcomisd (reg : Reg) (rm : RM) (s : State) : Result := fpCompare .sse2 double false reg rm s

/-- `ANDPD xmm, xmm/m128` (R482). -/
def execAndpd (reg : Reg) (rm : RM) (s : State) : Result := xmmOp .sse2 (fun a b => a &&& b) reg rm s

/-- `ANDNPD xmm, xmm/m128` (R483). -/
def execAndnpd (reg : Reg) (rm : RM) (s : State) : Result := xmmOp .sse2 andNot reg rm s

/-- `ORPD xmm, xmm/m128` (R484). -/
def execOrpd (reg : Reg) (rm : RM) (s : State) : Result := xmmOp .sse2 (fun a b => a ||| b) reg rm s

/-- `XORPD xmm, xmm/m128` (R485). -/
def execXorpd (reg : Reg) (rm : RM) (s : State) : Result := xmmOp .sse2 (fun a b => a ^^^ b) reg rm s

/-- `SHUFPD xmm, xmm/m128, imm8` (R486). -/
def execShufpd (reg : Reg) (rm : RM) (imm : Imm8) (s : State) : Result := xmmOp .sse2
    (fun a b => build 128 64 fun i => lane 64 (imm.extractLsb' i 1).toNat (if i = 0 then a else b)) reg rm s

/-- `UNPCKHPD xmm, xmm/m128` (R487). -/
def execUnpckhpd (reg : Reg) (rm : RM) (s : State) : Result := xmmOp .sse2 (unpackHigh 64) reg rm s

/-- `UNPCKLPD xmm, xmm/m128` (R488). -/
def execUnpcklpd (reg : Reg) (rm : RM) (s : State) : Result := xmmOp .sse2 (unpackLow 64) reg rm s

end Sys2Proof.Machine
end

