-- ==== Sys2Proof/Machine/Sse2Int.lean ====
section
/-! DEFINITION. The meanings of the instructions of:
SSE2 128-bit forms of the MMX transfers, arithmetic and comparisons (46_sse2_int128_ext.md). -/

namespace Sys2Proof.Machine

/-- `MOVD xmm, r/m32` (R532). -/
def execMovdXmmLoad (reg : Reg) (rm : RM) (s : State) : Result :=
  settle s do
    checkX .sse2 s
    let x ← s.gprOrMem 32 rm
    .ok (s.writeXmm reg (x.setWidth 128))

/-- `MOVD r/m32, xmm` (R533). -/
def execMovdXmmStore (reg : Reg) (rm : RM) (s : State) : Result :=
  settle s do
    checkX .sse2 s
    match rm with
    | .reg r => .ok (s.writeGpr r (lane 32 0 (s.readXmm reg)))
    | .mem m => s.store false .checked m (lane 32 0 (s.readXmm reg))

/-- MOVD, by its direction (R532, R533). -/
def execMovdXmm (dir : Dir) (reg : Reg) (rm : RM) (s : State) : Result :=
  match dir with
  | .load => execMovdXmmLoad reg rm s
  | .store => execMovdXmmStore reg rm s

/-- `MOVQ xmm, xmm/m64` (R534). -/
def execMovqXmmLoad (reg : Reg) (rm : RM) (s : State) : Result :=
  settle s do
    checkX .sse2 s
    let v ← s.xmmOrMem 64 rm
    .ok (s.writeXmm reg (v.setWidth 128))

/-- `MOVQ xmm/m64, xmm` (R535). -/
def execMovqXmmStore (reg : Reg) (rm : RM) (s : State) : Result :=
  settle s do
    checkX .sse2 s
    match rm with
    | .reg r => .ok (s.writeXmm r ((lane 64 0 (s.readXmm reg)).setWidth 128))
    | .mem m => s.store false .checked m (lane 64 0 (s.readXmm reg))

/-- MOVQ, by its direction (R534, R535). -/
def execMovqXmm (dir : Dir) (reg : Reg) (rm : RM) (s : State) : Result :=
  match dir with
  | .load => execMovqXmmLoad reg rm s
  | .store => execMovqXmmStore reg rm s

/-- `PADDB xmm, xmm/m128` (R536). -/
def execPaddbXmm (reg : Reg) (rm : RM) (s : State) : Result := xmmOp .sse2 (packedAdd 8) reg rm s

/-- `PADDW xmm, xmm/m128` (R537). -/
def execPaddwXmm (reg : Reg) (rm : RM) (s : State) : Result := xmmOp .sse2 (packedAdd 16) reg rm s

/-- `PADDD xmm, xmm/m128` (R538). -/
def execPadddXmm (reg : Reg) (rm : RM) (s : State) : Result := xmmOp .sse2 (packedAdd 32) reg rm s

/-- `PADDSB xmm, xmm/m128` (R539). -/
def execPaddsbXmm (reg : Reg) (rm : RM) (s : State) : Result := xmmOp .sse2 (packedAddS 8) reg rm s

/-- `PADDSW xmm, xmm/m128` (R540). -/
def execPaddswXmm (reg : Reg) (rm : RM) (s : State) : Result := xmmOp .sse2 (packedAddS 16) reg rm s

/-- `PADDUSB xmm, xmm/m128` (R541). -/
def execPaddusbXmm (reg : Reg) (rm : RM) (s : State) : Result := xmmOp .sse2 (packedAddUS 8) reg rm s

/-- `PADDUSW xmm, xmm/m128` (R542). -/
def execPadduswXmm (reg : Reg) (rm : RM) (s : State) : Result := xmmOp .sse2 (packedAddUS 16) reg rm s

/-- `PSUBB xmm, xmm/m128` (R543). -/
def execPsubbXmm (reg : Reg) (rm : RM) (s : State) : Result := xmmOp .sse2 (packedSub 8) reg rm s

/-- `PSUBW xmm, xmm/m128` (R544). -/
def execPsubwXmm (reg : Reg) (rm : RM) (s : State) : Result := xmmOp .sse2 (packedSub 16) reg rm s

/-- `PSUBD xmm, xmm/m128` (R545). -/
def execPsubdXmm (reg : Reg) (rm : RM) (s : State) : Result := xmmOp .sse2 (packedSub 32) reg rm s

/-- `PSUBSB xmm, xmm/m128` (R546). -/
def execPsubsbXmm (reg : Reg) (rm : RM) (s : State) : Result := xmmOp .sse2 (packedSubS 8) reg rm s

/-- `PSUBSW xmm, xmm/m128` (R547). -/
def execPsubswXmm (reg : Reg) (rm : RM) (s : State) : Result := xmmOp .sse2 (packedSubS 16) reg rm s

/-- `PSUBUSB xmm, xmm/m128` (R548). -/
def execPsubusbXmm (reg : Reg) (rm : RM) (s : State) : Result := xmmOp .sse2 (packedSubUS 8) reg rm s

/-- `PSUBUSW xmm, xmm/m128` (R549). -/
def execPsubuswXmm (reg : Reg) (rm : RM) (s : State) : Result := xmmOp .sse2 (packedSubUS 16) reg rm s

/-- `PMULLW xmm, xmm/m128` (R550). -/
def execPmullwXmm (reg : Reg) (rm : RM) (s : State) : Result := xmmOp .sse2 (packedMulLow 16) reg rm s

/-- `PMULHW xmm, xmm/m128` (R551). -/
def execPmulhwXmm (reg : Reg) (rm : RM) (s : State) : Result := xmmOp .sse2 (packedMulHighS 16) reg rm s

/-- `PMADDWD xmm, xmm/m128` (R552). -/
def execPmaddwdXmm (reg : Reg) (rm : RM) (s : State) : Result := xmmOp .sse2 packedMulAdd reg rm s

/-- `PCMPEQB xmm, xmm/m128` (R553). -/
def execPcmpeqbXmm (reg : Reg) (rm : RM) (s : State) : Result := xmmOp .sse2 (packedEq 8) reg rm s

/-- `PCMPEQW xmm, xmm/m128` (R554). -/
def execPcmpeqwXmm (reg : Reg) (rm : RM) (s : State) : Result := xmmOp .sse2 (packedEq 16) reg rm s

/-- `PCMPEQD xmm, xmm/m128` (R555). -/
def execPcmpeqdXmm (reg : Reg) (rm : RM) (s : State) : Result := xmmOp .sse2 (packedEq 32) reg rm s

/-- `PCMPGTB xmm, xmm/m128` (R556). -/
def execPcmpgtbXmm (reg : Reg) (rm : RM) (s : State) : Result := xmmOp .sse2 (packedGt 8) reg rm s

/-- `PCMPGTW xmm, xmm/m128` (R557). -/
def execPcmpgtwXmm (reg : Reg) (rm : RM) (s : State) : Result := xmmOp .sse2 (packedGt 16) reg rm s

/-- `PCMPGTD xmm, xmm/m128` (R558). -/
def execPcmpgtdXmm (reg : Reg) (rm : RM) (s : State) : Result := xmmOp .sse2 (packedGt 32) reg rm s

end Sys2Proof.Machine
end

