-- ==== Sys2Proof/Machine/Sse2IntNew.lean ====
section
/-! DEFINITION. The meanings of the instructions of:
SSE2 128-bit forms of the SSE integer instructions, and the new ones (47_sse2_int128_new.md). -/

namespace Sys2Proof.Machine

/-- `PAVGB xmm, xmm/m128` (R611). -/
def execPavgbXmm (reg : Reg) (rm : RM) (s : State) : Result := xmmOp .sse2 (packedAvg 8) reg rm s

/-- `PAVGW xmm, xmm/m128` (R612). -/
def execPavgwXmm (reg : Reg) (rm : RM) (s : State) : Result := xmmOp .sse2 (packedAvg 16) reg rm s

/-- `PEXTRW r32, xmm, imm8` (R613). -/
def execPextrwXmm (reg rm : Reg) (imm : Imm8) (s : State) : Result :=
  settle s do
    checkX .sse2 s
    let w := lane 16 (imm.extractLsb' 0 3).toNat (s.readXmm rm)
    .ok (s.writeGpr reg (w.setWidth 32))

/-- `PINSRW xmm, r32/m16, imm8` (R614). -/
def execPinsrwXmm (reg : Reg) (rm : RM) (imm : Imm8) (s : State) : Result :=
  settle s do
    checkX .sse2 s
    let x ← s.gprOrMem 16 rm
    let i := (imm.extractLsb' 0 3).toNat
    .ok (s.writeXmm reg (setLane 16 i x (s.readXmm reg)))

/-- `PMAXSW xmm, xmm/m128` (R615). -/
def execPmaxswXmm (reg : Reg) (rm : RM) (s : State) : Result := xmmOp .sse2 (packedMaxS 16) reg rm s

/-- `PMAXUB xmm, xmm/m128` (R616). -/
def execPmaxubXmm (reg : Reg) (rm : RM) (s : State) : Result := xmmOp .sse2 (packedMaxU 8) reg rm s

/-- `PMINSW xmm, xmm/m128` (R617). -/
def execPminswXmm (reg : Reg) (rm : RM) (s : State) : Result := xmmOp .sse2 (packedMinS 16) reg rm s

/-- `PMINUB xmm, xmm/m128` (R618). -/
def execPminubXmm (reg : Reg) (rm : RM) (s : State) : Result := xmmOp .sse2 (packedMinU 8) reg rm s

/-- `PMOVMSKB r32, xmm` (R619). -/
def execPmovmskbXmm (reg rm : Reg) (s : State) : Result :=
  settle s do
    checkX .sse2 s
    .ok (s.writeGpr reg (signMask 8 (s.readXmm rm)))

/-- `PMULHUW xmm, xmm/m128` (R620). -/
def execPmulhuwXmm (reg : Reg) (rm : RM) (s : State) : Result := xmmOp .sse2 (packedMulHighU 16) reg rm s

/-- `PSADBW xmm, xmm/m128` (R621). -/
def execPsadbwXmm (reg : Reg) (rm : RM) (s : State) : Result := xmmOp .sse2 packedSad reg rm s

/-- `MOVDQA xmm, xmm/m128` (R622). -/
def execMovdqaLoad (reg : Reg) (rm : RM) (s : State) : Result := xmmLoad .sse2 .must16 reg rm s

/-- `MOVDQA xmm/m128, xmm` (R623). -/
def execMovdqaStore (reg : Reg) (rm : RM) (s : State) : Result := xmmStore .sse2 .must16 reg rm s

/-- MOVDQA, by its direction (R622, R623). -/
def execMovdqa (dir : Dir) (reg : Reg) (rm : RM) (s : State) : Result :=
  match dir with
  | .load => execMovdqaLoad reg rm s
  | .store => execMovdqaStore reg rm s

/-- `MOVDQU xmm, xmm/m128` (R624). -/
def execMovdquLoad (reg : Reg) (rm : RM) (s : State) : Result := xmmLoad .sse2 .checked reg rm s

/-- `MOVDQU xmm/m128, xmm` (R625). -/
def execMovdquStore (reg : Reg) (rm : RM) (s : State) : Result := xmmStore .sse2 .checked reg rm s

/-- MOVDQU, by its direction (R624, R625). -/
def execMovdqu (dir : Dir) (reg : Reg) (rm : RM) (s : State) : Result :=
  match dir with
  | .load => execMovdquLoad reg rm s
  | .store => execMovdquStore reg rm s

/-- `MOVDQ2Q mm, xmm` (R626). -/
def execMovdq2q (reg rm : Reg) (s : State) : Result :=
  settle s do
    checkXM .sse2 s
    .ok (s.writeMm reg (lane 64 0 (s.readXmm rm)))

/-- `MOVQ2DQ xmm, mm` (R627). -/
def execMovq2dq (reg rm : Reg) (s : State) : Result :=
  settle s do
    checkXM .sse2 s
    .ok (s.writeXmm reg ((s.readMm rm).setWidth 128)).touchX87

/-- `PADDQ mm, mm/m64` (R628). -/
def execPaddqMm (reg : Reg) (rm : RM) (s : State) : Result := mmxOp .sse2 (packedAdd 64) reg rm s

/-- `PADDQ xmm, xmm/m128` (R629). -/
def execPaddqXmm (reg : Reg) (rm : RM) (s : State) : Result := xmmOp .sse2 (packedAdd 64) reg rm s

/-- `PSUBQ mm, mm/m64` (R630). -/
def execPsubqMm (reg : Reg) (rm : RM) (s : State) : Result := mmxOp .sse2 (packedSub 64) reg rm s

/-- `PSUBQ xmm, xmm/m128` (R631). -/
def execPsubqXmm (reg : Reg) (rm : RM) (s : State) : Result := xmmOp .sse2 (packedSub 64) reg rm s

/-- `PMULUDQ mm, mm/m64` (R632). -/
def execPmuludqMm (reg : Reg) (rm : RM) (s : State) : Result := mmxOp .sse2 packedMulU32 reg rm s

/-- `PMULUDQ xmm, xmm/m128` (R633). -/
def execPmuludqXmm (reg : Reg) (rm : RM) (s : State) : Result := xmmOp .sse2 packedMulU32 reg rm s

/-- `PSHUFD xmm, xmm/m128, imm8` (R634). -/
def execPshufd (reg : Reg) (rm : RM) (imm : Imm8) (s : State) : Result :=
  xmmOp .sse2 (fun _ b => shuffle 32 imm b) reg rm s

/-- `PSHUFHW xmm, xmm/m128, imm8` (R635). -/
def execPshufhw (reg : Reg) (rm : RM) (imm : Imm8) (s : State) : Result :=
  xmmOp .sse2 (fun _ b => shuffleHigh imm b) reg rm s

/-- `PSHUFLW xmm, xmm/m128, imm8` (R636). -/
def execPshuflw (reg : Reg) (rm : RM) (imm : Imm8) (s : State) : Result :=
  xmmOp .sse2 (fun _ b => shuffleLow imm b) reg rm s

/-- `PSLLDQ xmm, imm8` (R637). -/
def execPslldq (rm : Reg) (imm : Imm8) (s : State) : Result :=
  settle s do
    checkX .sse2 s
    .ok (s.writeXmm rm (shiftLeftBytes imm.toNat (s.readXmm rm)))

/-- `PSRLDQ xmm, imm8` (R638). -/
def execPsrldq (rm : Reg) (imm : Imm8) (s : State) : Result :=
  settle s do
    checkX .sse2 s
    .ok (s.writeXmm rm (shiftRightBytes imm.toNat (s.readXmm rm)))

/-- `PUNPCKHQDQ xmm, xmm/m128` (R639). -/
def execPunpckhqdqXmm (reg : Reg) (rm : RM) (s : State) : Result := xmmOp .sse2 (unpackHigh 64) reg rm s

/-- `PUNPCKLQDQ xmm, xmm/m128` (R640). -/
def execPunpcklqdqXmm (reg : Reg) (rm : RM) (s : State) : Result := xmmOp .sse2 (unpackLow 64) reg rm s

end Sys2Proof.Machine
end

