-- ==== Sys2Proof/Machine/Sse2Pack.lean ====
section
/-! DEFINITION. The meanings of the instructions of:
SSE2 128-bit forms of the MMX pack, logic and shift instructions (46_sse2_int128_ext_pack_logic_shift.md). -/

namespace Sys2Proof.Machine

/-- `PACKSSWB xmm, xmm/m128` (R559). -/
def execPacksswbXmm (reg : Reg) (rm : RM) (s : State) : Result := xmmOp .sse2 (packS 8) reg rm s

/-- `PACKSSDW xmm, xmm/m128` (R560). -/
def execPackssdwXmm (reg : Reg) (rm : RM) (s : State) : Result := xmmOp .sse2 (packS 16) reg rm s

/-- `PACKUSWB xmm, xmm/m128` (R561). -/
def execPackuswbXmm (reg : Reg) (rm : RM) (s : State) : Result := xmmOp .sse2 (packU 8) reg rm s

/-- `PUNPCKHBW xmm, xmm/m128` (R562). -/
def execPunpckhbwXmm (reg : Reg) (rm : RM) (s : State) : Result := xmmOp .sse2 (unpackHigh 8) reg rm s

/-- `PUNPCKHWD xmm, xmm/m128` (R563). -/
def execPunpckhwdXmm (reg : Reg) (rm : RM) (s : State) : Result := xmmOp .sse2 (unpackHigh 16) reg rm s

/-- `PUNPCKHDQ xmm, xmm/m128` (R564). -/
def execPunpckhdqXmm (reg : Reg) (rm : RM) (s : State) : Result := xmmOp .sse2 (unpackHigh 32) reg rm s

/-- `PUNPCKLBW xmm, xmm/m128` (R565). -/
def execPunpcklbwXmm (reg : Reg) (rm : RM) (s : State) : Result := xmmOp .sse2 (unpackLow 8) reg rm s

/-- `PUNPCKLWD xmm, xmm/m128` (R566). -/
def execPunpcklwdXmm (reg : Reg) (rm : RM) (s : State) : Result := xmmOp .sse2 (unpackLow 16) reg rm s

/-- `PUNPCKLDQ xmm, xmm/m128` (R567). -/
def execPunpckldqXmm (reg : Reg) (rm : RM) (s : State) : Result := xmmOp .sse2 (unpackLow 32) reg rm s

/-- `PAND xmm, xmm/m128` (R568). -/
def execPandXmm (reg : Reg) (rm : RM) (s : State) : Result := xmmOp .sse2 (fun a b => a &&& b) reg rm s

/-- `PANDN xmm, xmm/m128` (R569). -/
def execPandnXmm (reg : Reg) (rm : RM) (s : State) : Result := xmmOp .sse2 andNot reg rm s

/-- `POR xmm, xmm/m128` (R570). -/
def execPorXmm (reg : Reg) (rm : RM) (s : State) : Result := xmmOp .sse2 (fun a b => a ||| b) reg rm s

/-- `PXOR xmm, xmm/m128` (R571). -/
def execPxorXmm (reg : Reg) (rm : RM) (s : State) : Result := xmmOp .sse2 (fun a b => a ^^^ b) reg rm s

/-- `PSLLW xmm, xmm/m128` (R572); `PSLLW xmm, imm8` (R573). -/
def execPsllwXmm (dst : Reg) (count : Count) (s : State) : Result := xmmShift (packedShl 16) dst count s

/-- `PSLLD xmm, xmm/m128` (R574); `PSLLD xmm, imm8` (R575). -/
def execPslldXmm (dst : Reg) (count : Count) (s : State) : Result := xmmShift (packedShl 32) dst count s

/-- `PSLLQ xmm, xmm/m128` (R576); `PSLLQ xmm, imm8` (R577). -/
def execPsllqXmm (dst : Reg) (count : Count) (s : State) : Result := xmmShift (packedShl 64) dst count s

/-- `PSRLW xmm, xmm/m128` (R578); `PSRLW xmm, imm8` (R579). -/
def execPsrlwXmm (dst : Reg) (count : Count) (s : State) : Result := xmmShift (packedShr 16) dst count s

/-- `PSRLD xmm, xmm/m128` (R580); `PSRLD xmm, imm8` (R581). -/
def execPsrldXmm (dst : Reg) (count : Count) (s : State) : Result := xmmShift (packedShr 32) dst count s

/-- `PSRLQ xmm, xmm/m128` (R582); `PSRLQ xmm, imm8` (R583). -/
def execPsrlqXmm (dst : Reg) (count : Count) (s : State) : Result := xmmShift (packedShr 64) dst count s

/-- `PSRAW xmm, xmm/m128` (R584); `PSRAW xmm, imm8` (R585). -/
def execPsrawXmm (dst : Reg) (count : Count) (s : State) : Result := xmmShift (packedSar 16) dst count s

/-- `PSRAD xmm, xmm/m128` (R586); `PSRAD xmm, imm8` (R587). -/
def execPsradXmm (dst : Reg) (count : Count) (s : State) : Result := xmmShift (packedSar 32) dst count s

end Sys2Proof.Machine
end

