-- ==== Sys2Proof/Machine/SseCmpConv.lean ====
section
/-! DEFINITION. The meanings of the instructions of:
SSE compare, conversion, logic and shuffle (42_sse_fp_cmp_conv.md). -/

namespace Sys2Proof.Machine

/-- `CMPPS xmm, xmm/m128, imm8` (R365). -/
def execCmpps (reg : Reg) (rm : RM) (pred : Pred) (s : State) : Result := fpPacked .sse (fcmp single pred) reg rm s

/-- `CMPSS xmm, xmm/m32, imm8` (R366). -/
def execCmpss (reg : Reg) (rm : RM) (pred : Pred) (s : State) : Result := fpScalar .sse (fcmp single pred) reg rm s

/-- `COMISS xmm, xmm/m32` (R367). -/
def execComiss (reg : Reg) (rm : RM) (s : State) : Result := fpCompare .sse single true reg rm s

/-- `UCOMISS xmm, xmm/m32` (R368). -/
def execUcomiss (reg : Reg) (rm : RM) (s : State) : Result := fpCompare .sse single false reg rm s

/-- `CVTPI2PS xmm, mm/m64` (R369). The memory form makes the #MF check and has the x87 side effects too (log 23). -/
def execCvtpi2ps (reg : Reg) (rm : RM) (s : State) : Result :=
  settle s do
    checkXM .sse s
    let b ← s.mmOrMem 64 rm
    let r := convertLanes 2 (i2f single s.mxcsr) b
    let t ← commit s (union r)
    .ok (t.writeXmm reg (setLanes (r.map Lane.bits) (s.readXmm reg))).touchX87

/-- `CVTPS2PI mm, xmm/m64` (R370). -/
def execCvtps2pi (reg : Reg) (rm : RM) (s : State) : Result := cvtToMm .sse 64 (toIntRounded single) reg rm s

/-- `CVTTPS2PI mm, xmm/m64` (R371). -/
def execCvttps2pi (reg : Reg) (rm : RM) (s : State) : Result := cvtToMm .sse 64 (toIntTruncated single) reg rm s

/-- `CVTSI2SS xmm, r32/m32` (R372). -/
def execCvtsi2ss (reg : Reg) (rm : RM) (s : State) : Result := cvtFromGpr .sse (i2f single) reg rm s

/-- `CVTSS2SI r32, xmm/m32` (R373). -/
def execCvtss2si (reg : Reg) (rm : RM) (s : State) : Result := cvtToGpr .sse (toIntRounded single) reg rm s

/-- `CVTTSS2SI r32, xmm/m32` (R374). -/
def execCvttss2si (reg : Reg) (rm : RM) (s : State) : Result := cvtToGpr .sse (toIntTruncated single) reg rm s

/-- `ANDPS xmm, xmm/m128` (R375). -/
def execAndps (reg : Reg) (rm : RM) (s : State) : Result := xmmOp .sse (fun a b => a &&& b) reg rm s

/-- `ANDNPS xmm, xmm/m128` (R376). -/
def execAndnps (reg : Reg) (rm : RM) (s : State) : Result := xmmOp .sse andNot reg rm s

/-- `ORPS xmm, xmm/m128` (R377). -/
def execOrps (reg : Reg) (rm : RM) (s : State) : Result := xmmOp .sse (fun a b => a ||| b) reg rm s

/-- `XORPS xmm, xmm/m128` (R378). -/
def execXorps (reg : Reg) (rm : RM) (s : State) : Result := xmmOp .sse (fun a b => a ^^^ b) reg rm s

/-- `SHUFPS xmm, xmm/m128, imm8` (R379). -/
def execShufps (reg : Reg) (rm : RM) (imm : Imm8) (s : State) : Result := xmmOp .sse
    (fun a b => build 128 32 fun i => if i < 2 then lane 32 (selector imm i) a else lane 32 (selector imm i) b) reg rm s

/-- `UNPCKHPS xmm, xmm/m128` (R380). -/
def execUnpckhps (reg : Reg) (rm : RM) (s : State) : Result := xmmOp .sse (unpackHigh 32) reg rm s

/-- `UNPCKLPS xmm, xmm/m128` (R381). -/
def execUnpcklps (reg : Reg) (rm : RM) (s : State) : Result := xmmOp .sse (unpackLow 32) reg rm s

end Sys2Proof.Machine
end

