-- ==== Sys2Proof/Machine/SseFp.lean ====
section
/-! DEFINITION. The meanings of the instructions of:
SSE data transfer and arithmetic (42_sse_fp.md). -/

namespace Sys2Proof.Machine

/-- `MOVAPS xmm, xmm/m128` (R334). -/
def execMovapsLoad (reg : Reg) (rm : RM) (s : State) : Result := xmmLoad .sse .must16 reg rm s

/-- `MOVAPS xmm/m128, xmm` (R335). -/
def execMovapsStore (reg : Reg) (rm : RM) (s : State) : Result := xmmStore .sse .must16 reg rm s

/-- MOVAPS, by its direction (R334, R335). -/
def execMovaps (dir : Dir) (reg : Reg) (rm : RM) (s : State) : Result :=
  match dir with
  | .load => execMovapsLoad reg rm s
  | .store => execMovapsStore reg rm s

/-- `MOVUPS xmm, xmm/m128` (R336). -/
def execMovupsLoad (reg : Reg) (rm : RM) (s : State) : Result := xmmLoad .sse .checked reg rm s

/-- `MOVUPS xmm/m128, xmm` (R337). -/
def execMovupsStore (reg : Reg) (rm : RM) (s : State) : Result := xmmStore .sse .checked reg rm s

/-- MOVUPS, by its direction (R336, R337). -/
def execMovups (dir : Dir) (reg : Reg) (rm : RM) (s : State) : Result :=
  match dir with
  | .load => execMovupsLoad reg rm s
  | .store => execMovupsStore reg rm s

/-- `MOVSS xmm, xmm/m32` (R338). -/
def execMovssLoad (reg : Reg) (rm : RM) (s : State) : Result := scalarLoad .sse 32 reg rm s

/-- `MOVSS xmm/m32, xmm` (R339). -/
def execMovssStore (reg : Reg) (rm : RM) (s : State) : Result := scalarStore .sse 32 reg rm s

/-- MOVSS, by its direction (R338, R339). -/
def execMovss (dir : Dir) (reg : Reg) (rm : RM) (s : State) : Result :=
  match dir with
  | .load => execMovssLoad reg rm s
  | .store => execMovssStore reg rm s

/-- `MOVLPS xmm, m64` (R340). -/
def execMovlpsLoad (reg : Reg) (m : MemOp) (s : State) : Result := halfLoad .sse 0 reg m s

/-- `MOVLPS m64, xmm` (R341). -/
def execMovlpsStore (reg : Reg) (m : MemOp) (s : State) : Result := halfStore .sse 0 reg m s

/-- MOVLPS, by its direction (R340, R341). -/
def execMovlps (dir : Dir) (reg : Reg) (m : MemOp) (s : State) : Result :=
  match dir with
  | .load => execMovlpsLoad reg m s
  | .store => execMovlpsStore reg m s

/-- `MOVHPS xmm, m64` (R342). -/
def execMovhpsLoad (reg : Reg) (m : MemOp) (s : State) : Result := halfLoad .sse 1 reg m s

/-- `MOVHPS m64, xmm` (R343). -/
def execMovhpsStore (reg : Reg) (m : MemOp) (s : State) : Result := halfStore .sse 1 reg m s

/-- MOVHPS, by its direction (R342, R343). -/
def execMovhps (dir : Dir) (reg : Reg) (m : MemOp) (s : State) : Result :=
  match dir with
  | .load => execMovhpsLoad reg m s
  | .store => execMovhpsStore reg m s

/-- `MOVHLPS xmm, xmm` (R344). -/
def execMovhlps (reg rm : Reg) (s : State) : Result :=
  settle s do
    checkX .sse s
    .ok (s.writeXmm reg (setLane 64 0 (lane 64 1 (s.readXmm rm)) (s.readXmm reg)))

/-- `MOVLHPS xmm, xmm` (R345). -/
def execMovlhps (reg rm : Reg) (s : State) : Result :=
  settle s do
    checkX .sse s
    .ok (s.writeXmm reg (setLane 64 1 (lane 64 0 (s.readXmm rm)) (s.readXmm reg)))

/-- `MOVMSKPS r32, xmm` (R346). -/
def execMovmskps (reg rm : Reg) (s : State) : Result :=
  settle s do
    checkX .sse s
    .ok (s.writeGpr reg (signMask 32 (s.readXmm rm)))

/-- `ADDPS xmm, xmm/m128` (R347). -/
def execAddps (reg : Reg) (rm : RM) (s : State) : Result := fpPacked .sse (fadd single) reg rm s

/-- `ADDSS xmm, xmm/m32` (R348). -/
def execAddss (reg : Reg) (rm : RM) (s : State) : Result := fpScalar .sse (fadd single) reg rm s

/-- `SUBPS xmm, xmm/m128` (R349). -/
def execSubps (reg : Reg) (rm : RM) (s : State) : Result := fpPacked .sse (fsub single) reg rm s

/-- `SUBSS xmm, xmm/m32` (R350). -/
def execSubss (reg : Reg) (rm : RM) (s : State) : Result := fpScalar .sse (fsub single) reg rm s

/-- `MULPS xmm, xmm/m128` (R351). -/
def execMulps (reg : Reg) (rm : RM) (s : State) : Result := fpPacked .sse (fmul single) reg rm s

/-- `MULSS xmm, xmm/m32` (R352). -/
def execMulss (reg : Reg) (rm : RM) (s : State) : Result := fpScalar .sse (fmul single) reg rm s

/-- `DIVPS xmm, xmm/m128` (R353). -/
def execDivps (reg : Reg) (rm : RM) (s : State) : Result := fpPacked .sse (fdiv single) reg rm s

/-- `DIVSS xmm, xmm/m32` (R354). -/
def execDivss (reg : Reg) (rm : RM) (s : State) : Result := fpScalar .sse (fdiv single) reg rm s

/-- `MAXPS xmm, xmm/m128` (R355). -/
def execMaxps (reg : Reg) (rm : RM) (s : State) : Result := fpPacked .sse (fmax single) reg rm s

/-- `MAXSS xmm, xmm/m32` (R356). -/
def execMaxss (reg : Reg) (rm : RM) (s : State) : Result := fpScalar .sse (fmax single) reg rm s

/-- `MINPS xmm, xmm/m128` (R357). -/
def execMinps (reg : Reg) (rm : RM) (s : State) : Result := fpPacked .sse (fmin single) reg rm s

/-- `MINSS xmm, xmm/m32` (R358). -/
def execMinss (reg : Reg) (rm : RM) (s : State) : Result := fpScalar .sse (fmin single) reg rm s

/-- `SQRTPS xmm, xmm/m128` (R359). -/
def execSqrtps (reg : Reg) (rm : RM) (s : State) : Result := fpPacked .sse (unary (fsqrt single)) reg rm s

/-- `SQRTSS xmm, xmm/m32` (R360). -/
def execSqrtss (reg : Reg) (rm : RM) (s : State) : Result := fpScalar .sse (unary (fsqrt single)) reg rm s

/-- `RCPPS xmm, xmm/m128` (R361). -/
def execRcpps (reg : Reg) (rm : RM) (s : State) : Result := fpPacked .sse (unary fun _ b => ⟨rcp32 b, 0#6⟩) reg rm s

/-- `RCPSS xmm, xmm/m32` (R362). -/
def execRcpss (reg : Reg) (rm : RM) (s : State) : Result := fpScalar .sse (unary fun _ b => ⟨rcp32 b, 0#6⟩) reg rm s

/-- `RSQRTPS xmm, xmm/m128` (R363). -/
def execRsqrtps (reg : Reg) (rm : RM) (s : State) : Result :=
  fpPacked .sse (unary fun _ b => ⟨rsqrt32 b, 0#6⟩) reg rm s

/-- `RSQRTSS xmm, xmm/m32` (R364). -/
def execRsqrtss (reg : Reg) (rm : RM) (s : State) : Result :=
  fpScalar .sse (unary fun _ b => ⟨rsqrt32 b, 0#6⟩) reg rm s

end Sys2Proof.Machine
end

