-- ==== Sys2Proof/Machine/SseIntState.lean ====
section
/-! DEFINITION. The meanings of the instructions of:
SSE integer, state management and cacheability control (43_sse_int_state_cache.md). -/

namespace Sys2Proof.Machine

/-! ## The FXSAVE image (R426, R427) -/

/-- Is a register tagged anything but empty? Bit `i` of the abridged tag byte (R426). -/
def abridgedTags (ftw : BitVec 16) : Byte :=
  ofLanes 8 ((List.range 8).map fun i => BitVec.ofBool (tagOf ftw i != 3#2))

/-- The bytes of a field, at their places in the image. -/
def fieldBytes {w : Nat} (at_ : Nat) (v : BitVec w) : List (Nat × Byte) :=
  (toBytes (w / 8) v).mapIdx fun i b => (at_ + i, b)

/-- Reserved bytes of the image, each a free value (R426, 93_implementation_defined.md U8; log 19). -/
def reservedBytes (oracle lo n : Nat) : List (Nat × Byte) :=
  (List.range n).map fun i => (lo + i, Config.reservedByte oracle (lo + i))

/-- The image's x87 part: bytes 0 to 23 and the eight slots in stack order, with their reserved bytes (R426). -/
def fxImageX87 (s : State) : List (Nat × Byte) :=
  fieldBytes 0 s.fcw ++ fieldBytes 2 s.fsw ++ fieldBytes 4 (abridgedTags s.ftw) ++ reservedBytes s.oracle 5 1 ++
    fieldBytes 6 (s.fop.setWidth 16) ++ fieldBytes 8 s.fip ++ fieldBytes 12 s.fcs ++ reservedBytes s.oracle 14 2 ++
    fieldBytes 16 s.fdp ++ fieldBytes 20 s.fds ++ reservedBytes s.oracle 22 2 ++
    (List.range 8).flatMap fun j =>
      fieldBytes (32 + 16 * j) (s.readFpr (fswTop s.fsw + BitVec.ofNat 3 j)) ++ reservedBytes s.oracle (42 + 16 * j) 6

/-- The image's XMM part: MXCSR, MXCSR_MASK and the XMM registers (R426). -/
def fxImageXmm (s : State) : List (Nat × Byte) :=
  fieldBytes 24 s.mxcsr ++ fieldBytes 28 s.mxcsrMask ++
    (List.range 8).flatMap fun j => fieldBytes (160 + 16 * j) (s.readXmm (BitVec.ofNat 3 j))

/-- The bytes FXSAVE writes: bytes 464 to 511 never, the XMM part only if `cr4.OSFXSR` (R426, 92_eei_decisions.md
D25). -/
def fxImage (s : State) : List (Nat × Byte) :=
  fxImageX87 s ++ (if s.osfxsr then fxImageXmm s else []) ++ reservedBytes s.oracle 288 176

/-- A field of `w` bits of the image at a linear address. -/
def imageField (s : State) (a at_ w : Nat) : BitVec w := ofBytes w (s.bytes (a + at_) (w / 8))

/-- `tag_of(x)` (R427): 01 zero, 10 special, 00 valid. -/
def tagFor (x : Fpr) : BitVec 2 :=
  let e := x.extractLsb' 64 15
  let j := x.getLsbD 63
  if e = 0#15 ∧ x.extractLsb' 0 64 = 0#64 then 1#2
  else if e = 0x7FFF#15 ∨ e = 0#15 ∨ j = false then 2#2
  else 0#2

/-- The x87 register that FXRSTOR puts in physical place `i`: slot `(i - top) mod 8` (R427). -/
def imageFpr (s : State) (a : Nat) (top : BitVec 3) (i : Nat) : Fpr :=
  imageField s a (32 + 16 * (BitVec.ofNat 3 i - top).toNat) 80

/-- The tag word recomputed: empty where the abridged tag's bit is 0, else by the register's content (R427). -/
def imageTags (s : State) (a : Nat) (top : BitVec 3) : BitVec 16 :=
  let abridged : Byte := imageField s a 4 8
  ofLanes 16 ((List.range 8).map fun i => if abridged.getLsbD i then tagFor (imageFpr s a top i) else 3#2)

/-- FXRSTOR's x87 part (R427). -/
def restoreX87 (s : State) (a : Nat) : State :=
  let top := fswTop (imageField s a 2 16)
  { s with
    fcw := imageField s a 0 16
    fsw := imageField s a 2 16
    ftw := imageTags s a top
    fop := (imageField s a 6 16 : BitVec 16).setWidth 11
    fip := imageField s a 8 32
    fcs := imageField s a 12 16
    fdp := imageField s a 16 32
    fds := imageField s a 20 16
    fpr := Vector.ofFn fun i => imageFpr s a top i.val }

/-- FXRSTOR's effect: the XMM registers and MXCSR only if `cr4.OSFXSR` (R427, 92_eei_decisions.md D25). -/
def restoreImage (s : State) (a : Nat) : State :=
  if s.osfxsr then
    { restoreX87 s a with
      mxcsr := imageField s a 24 32
      xmm := Vector.ofFn fun j => imageField s a (160 + 16 * j.val) 128 }
  else restoreX87 s a

/-! ## The instructions -/

/-- `PAVGB mm, mm/m64` (R412). -/
def execPavgbMm (reg : Reg) (rm : RM) (s : State) : Result := mmxOp .sse (packedAvg 8) reg rm s

/-- `PAVGW mm, mm/m64` (R413). -/
def execPavgwMm (reg : Reg) (rm : RM) (s : State) : Result := mmxOp .sse (packedAvg 16) reg rm s

/-- `PEXTRW r32, mm, imm8` (R414). -/
def execPextrwMm (reg rm : Reg) (imm : Imm8) (s : State) : Result :=
  settle s do
    checkM .sse s
    let w := lane 16 (imm.extractLsb' 0 2).toNat (s.readMm rm)
    .ok (s.writeGpr reg (w.setWidth 32)).touchX87

/-- `PINSRW mm, r32/m16, imm8` (R415). -/
def execPinsrwMm (reg : Reg) (rm : RM) (imm : Imm8) (s : State) : Result :=
  settle s do
    checkM .sse s
    let x ← s.gprOrMem 16 rm
    let i := (imm.extractLsb' 0 2).toNat
    .ok (s.writeMm reg (setLane 16 i x (s.readMm reg)))

/-- `PMAXSW mm, mm/m64` (R416). -/
def execPmaxswMm (reg : Reg) (rm : RM) (s : State) : Result := mmxOp .sse (packedMaxS 16) reg rm s

/-- `PMAXUB mm, mm/m64` (R417). -/
def execPmaxubMm (reg : Reg) (rm : RM) (s : State) : Result := mmxOp .sse (packedMaxU 8) reg rm s

/-- `PMINSW mm, mm/m64` (R418). -/
def execPminswMm (reg : Reg) (rm : RM) (s : State) : Result := mmxOp .sse (packedMinS 16) reg rm s

/-- `PMINUB mm, mm/m64` (R419). -/
def execPminubMm (reg : Reg) (rm : RM) (s : State) : Result := mmxOp .sse (packedMinU 8) reg rm s

/-- `PMOVMSKB r32, mm` (R420). -/
def execPmovmskbMm (reg rm : Reg) (s : State) : Result :=
  settle s do
    checkM .sse s
    .ok (s.writeGpr reg (signMask 8 (s.readMm rm))).touchX87

/-- `PMULHUW mm, mm/m64` (R421). -/
def execPmulhuwMm (reg : Reg) (rm : RM) (s : State) : Result := mmxOp .sse (packedMulHighU 16) reg rm s

/-- `PSADBW mm, mm/m64` (R422). -/
def execPsadbwMm (reg : Reg) (rm : RM) (s : State) : Result := mmxOp .sse packedSad reg rm s

/-- `PSHUFW mm, mm/m64, imm8` (R423). -/
def execPshufw (reg : Reg) (rm : RM) (imm : Imm8) (s : State) : Result :=
  mmxOp .sse (fun _ b => shuffle 16 imm b) reg rm s

/-- `LDMXCSR m32` (R424). -/
def execLdmxcsr (m : MemOp) (s : State) : Result :=
  settle s do
    checkX .sse s
    let v ← s.load .checked m 32
    if s.mxcsrReserved v then raise (.zero .gp) else .ok { s with mxcsr := v }

/-- `STMXCSR m32` (R425). -/
def execStmxcsr (m : MemOp) (s : State) : Result :=
  settle s do
    checkX .sse s
    s.store false .checked m s.mxcsr

/-- `FXSAVE m512byte` (R426). Every byte is checked before one is written (log 19). -/
def execFxsave (m : MemOp) (s : State) : Result :=
  settle s do
    checkFX s
    let a ← s.checkAccess true .must16 m 512
    .ok { s.storeEach false a (fxImage s) with oracle := s.oracle + 1 }

/-- `FXRSTOR m512byte` (R427). -/
def execFxrstor (m : MemOp) (s : State) : Result :=
  settle s do
    checkFX s
    let a ← s.checkAccess false .must16 m 512
    let v : Dword := imageField s a 24 32
    if s.osfxsr && s.mxcsrReserved v then raise (.zero .gp) else .ok (restoreImage s a)

/-- `MASKMOVQ mm1, mm2` (R428). -/
def execMaskmovq (reg rm : Reg) (seg : Seg) (s : State) : Result :=
  settle s do
    checkM .sse s
    let t ← maskedStore (s.readMm reg) (s.readMm rm) seg s
    .ok t.touchX87

/-- `MOVNTQ m64, mm` (R429). -/
def execMovntq (reg : Reg) (m : MemOp) (s : State) : Result :=
  settle s do
    checkM .sse s
    let t ← s.store true .checked m (s.readMm reg)
    .ok t.touchX87

/-- `MOVNTPS m128, xmm` (R430). -/
def execMovntps (reg : Reg) (m : MemOp) (s : State) : Result := xmmStoreNt .sse reg m s

/-- `SFENCE` (R431). -/
def execSfence (s : State) : Result :=
  settle s do
    checkH .sse s
    .ok s.fenceStores

/-- `PREFETCHT0 m8` (R432). -/
def execPrefetcht0 (_m : MemOp) (s : State) : Result :=
  settle s do
    checkH .sse s
    .ok s

/-- `PREFETCHT1 m8` (R433). -/
def execPrefetcht1 (_m : MemOp) (s : State) : Result :=
  settle s do
    checkH .sse s
    .ok s

/-- `PREFETCHT2 m8` (R434). -/
def execPrefetcht2 (_m : MemOp) (s : State) : Result :=
  settle s do
    checkH .sse s
    .ok s

/-- `PREFETCHNTA m8` (R435). -/
def execPrefetchnta (_m : MemOp) (s : State) : Result :=
  settle s do
    checkH .sse s
    .ok s

end Sys2Proof.Machine
end

