-- ==== Sys2Proof/Machine/Dispatch.lean ====
section
/-! DEFINITION. One arm per constructor of Instr: what executing the instruction does to a state. -/

namespace Sys2Proof.Machine

def exec (i : Instr) (s : State) : Host.Outcome State Fault Refusal :=
  match i with
  | .movdMm dir reg rm => Sys2Proof.Machine.execMovdMm dir reg rm s
  | .movqMm dir reg rm => Sys2Proof.Machine.execMovqMm dir reg rm s
  | .paddbMm reg rm => Sys2Proof.Machine.execPaddbMm reg rm s
  | .paddwMm reg rm => Sys2Proof.Machine.execPaddwMm reg rm s
  | .padddMm reg rm => Sys2Proof.Machine.execPadddMm reg rm s
  | .paddsbMm reg rm => Sys2Proof.Machine.execPaddsbMm reg rm s
  | .paddswMm reg rm => Sys2Proof.Machine.execPaddswMm reg rm s
  | .paddusbMm reg rm => Sys2Proof.Machine.execPaddusbMm reg rm s
  | .padduswMm reg rm => Sys2Proof.Machine.execPadduswMm reg rm s
  | .psubbMm reg rm => Sys2Proof.Machine.execPsubbMm reg rm s
  | .psubwMm reg rm => Sys2Proof.Machine.execPsubwMm reg rm s
  | .psubdMm reg rm => Sys2Proof.Machine.execPsubdMm reg rm s
  | .psubsbMm reg rm => Sys2Proof.Machine.execPsubsbMm reg rm s
  | .psubswMm reg rm => Sys2Proof.Machine.execPsubswMm reg rm s
  | .psubusbMm reg rm => Sys2Proof.Machine.execPsubusbMm reg rm s
  | .psubuswMm reg rm => Sys2Proof.Machine.execPsubuswMm reg rm s
  | .pmullwMm reg rm => Sys2Proof.Machine.execPmullwMm reg rm s
  | .pmulhwMm reg rm => Sys2Proof.Machine.execPmulhwMm reg rm s
  | .pmaddwdMm reg rm => Sys2Proof.Machine.execPmaddwdMm reg rm s
  | .pcmpeqbMm reg rm => Sys2Proof.Machine.execPcmpeqbMm reg rm s
  | .pcmpeqwMm reg rm => Sys2Proof.Machine.execPcmpeqwMm reg rm s
  | .pcmpeqdMm reg rm => Sys2Proof.Machine.execPcmpeqdMm reg rm s
  | .pcmpgtbMm reg rm => Sys2Proof.Machine.execPcmpgtbMm reg rm s
  | .pcmpgtwMm reg rm => Sys2Proof.Machine.execPcmpgtwMm reg rm s
  | .pcmpgtdMm reg rm => Sys2Proof.Machine.execPcmpgtdMm reg rm s
  | .packsswbMm reg rm => Sys2Proof.Machine.execPacksswbMm reg rm s
  | .packssdwMm reg rm => Sys2Proof.Machine.execPackssdwMm reg rm s
  | .packuswbMm reg rm => Sys2Proof.Machine.execPackuswbMm reg rm s
  | .punpckhbwMm reg rm => Sys2Proof.Machine.execPunpckhbwMm reg rm s
  | .punpckhwdMm reg rm => Sys2Proof.Machine.execPunpckhwdMm reg rm s
  | .punpckhdqMm reg rm => Sys2Proof.Machine.execPunpckhdqMm reg rm s
  | .punpcklbwMm reg rm => Sys2Proof.Machine.execPunpcklbwMm reg rm s
  | .punpcklwdMm reg rm => Sys2Proof.Machine.execPunpcklwdMm reg rm s
  | .punpckldqMm reg rm => Sys2Proof.Machine.execPunpckldqMm reg rm s
  | .pandMm reg rm => Sys2Proof.Machine.execPandMm reg rm s
  | .pandnMm reg rm => Sys2Proof.Machine.execPandnMm reg rm s
  | .porMm reg rm => Sys2Proof.Machine.execPorMm reg rm s
  | .pxorMm reg rm => Sys2Proof.Machine.execPxorMm reg rm s
  | .psllwMm dst count => Sys2Proof.Machine.execPsllwMm dst count s
  | .pslldMm dst count => Sys2Proof.Machine.execPslldMm dst count s
  | .psllqMm dst count => Sys2Proof.Machine.execPsllqMm dst count s
  | .psrlwMm dst count => Sys2Proof.Machine.execPsrlwMm dst count s
  | .psrldMm dst count => Sys2Proof.Machine.execPsrldMm dst count s
  | .psrlqMm dst count => Sys2Proof.Machine.execPsrlqMm dst count s
  | .psrawMm dst count => Sys2Proof.Machine.execPsrawMm dst count s
  | .psradMm dst count => Sys2Proof.Machine.execPsradMm dst count s
  | .movaps dir reg rm => Sys2Proof.Machine.execMovaps dir reg rm s
  | .movups dir reg rm => Sys2Proof.Machine.execMovups dir reg rm s
  | .movss dir reg rm => Sys2Proof.Machine.execMovss dir reg rm s
  | .movlps dir reg m => Sys2Proof.Machine.execMovlps dir reg m s
  | .movhps dir reg m => Sys2Proof.Machine.execMovhps dir reg m s
  | .movhlps reg rm => Sys2Proof.Machine.execMovhlps reg rm s
  | .movlhps reg rm => Sys2Proof.Machine.execMovlhps reg rm s
  | .movmskps reg rm => Sys2Proof.Machine.execMovmskps reg rm s
  | .addps reg rm => Sys2Proof.Machine.execAddps reg rm s
  | .addss reg rm => Sys2Proof.Machine.execAddss reg rm s
  | .subps reg rm => Sys2Proof.Machine.execSubps reg rm s
  | .subss reg rm => Sys2Proof.Machine.execSubss reg rm s
  | .mulps reg rm => Sys2Proof.Machine.execMulps reg rm s
  | .mulss reg rm => Sys2Proof.Machine.execMulss reg rm s
  | .divps reg rm => Sys2Proof.Machine.execDivps reg rm s
  | .divss reg rm => Sys2Proof.Machine.execDivss reg rm s
  | .maxps reg rm => Sys2Proof.Machine.execMaxps reg rm s
  | .maxss reg rm => Sys2Proof.Machine.execMaxss reg rm s
  | .minps reg rm => Sys2Proof.Machine.execMinps reg rm s
  | .minss reg rm => Sys2Proof.Machine.execMinss reg rm s
  | .sqrtps reg rm => Sys2Proof.Machine.execSqrtps reg rm s
  | .sqrtss reg rm => Sys2Proof.Machine.execSqrtss reg rm s
  | .rcpps reg rm => Sys2Proof.Machine.execRcpps reg rm s
  | .rcpss reg rm => Sys2Proof.Machine.execRcpss reg rm s
  | .rsqrtps reg rm => Sys2Proof.Machine.execRsqrtps reg rm s
  | .rsqrtss reg rm => Sys2Proof.Machine.execRsqrtss reg rm s
  | .cmpps reg rm pred => Sys2Proof.Machine.execCmpps reg rm pred s
  | .cmpss reg rm pred => Sys2Proof.Machine.execCmpss reg rm pred s
  | .comiss reg rm => Sys2Proof.Machine.execComiss reg rm s
  | .ucomiss reg rm => Sys2Proof.Machine.execUcomiss reg rm s
  | .cvtpi2ps reg rm => Sys2Proof.Machine.execCvtpi2ps reg rm s
  | .cvtps2pi reg rm => Sys2Proof.Machine.execCvtps2pi reg rm s
  | .cvttps2pi reg rm => Sys2Proof.Machine.execCvttps2pi reg rm s
  | .cvtsi2ss reg rm => Sys2Proof.Machine.execCvtsi2ss reg rm s
  | .cvtss2si reg rm => Sys2Proof.Machine.execCvtss2si reg rm s
  | .cvttss2si reg rm => Sys2Proof.Machine.execCvttss2si reg rm s
  | .andps reg rm => Sys2Proof.Machine.execAndps reg rm s
  | .andnps reg rm => Sys2Proof.Machine.execAndnps reg rm s
  | .orps reg rm => Sys2Proof.Machine.execOrps reg rm s
  | .xorps reg rm => Sys2Proof.Machine.execXorps reg rm s
  | .shufps reg rm imm => Sys2Proof.Machine.execShufps reg rm imm s
  | .unpckhps reg rm => Sys2Proof.Machine.execUnpckhps reg rm s
  | .unpcklps reg rm => Sys2Proof.Machine.execUnpcklps reg rm s
  | .pavgbMm reg rm => Sys2Proof.Machine.execPavgbMm reg rm s
  | .pavgwMm reg rm => Sys2Proof.Machine.execPavgwMm reg rm s
  | .pextrwMm reg rm imm => Sys2Proof.Machine.execPextrwMm reg rm imm s
  | .pinsrwMm reg rm imm => Sys2Proof.Machine.execPinsrwMm reg rm imm s
  | .pmaxswMm reg rm => Sys2Proof.Machine.execPmaxswMm reg rm s
  | .pmaxubMm reg rm => Sys2Proof.Machine.execPmaxubMm reg rm s
  | .pminswMm reg rm => Sys2Proof.Machine.execPminswMm reg rm s
  | .pminubMm reg rm => Sys2Proof.Machine.execPminubMm reg rm s
  | .pmovmskbMm reg rm => Sys2Proof.Machine.execPmovmskbMm reg rm s
  | .pmulhuwMm reg rm => Sys2Proof.Machine.execPmulhuwMm reg rm s
  | .psadbwMm reg rm => Sys2Proof.Machine.execPsadbwMm reg rm s
  | .pshufw reg rm imm => Sys2Proof.Machine.execPshufw reg rm imm s
  | .ldmxcsr m => Sys2Proof.Machine.execLdmxcsr m s
  | .stmxcsr m => Sys2Proof.Machine.execStmxcsr m s
  | .fxsave m => Sys2Proof.Machine.execFxsave m s
  | .fxrstor m => Sys2Proof.Machine.execFxrstor m s
  | .maskmovq reg rm seg => Sys2Proof.Machine.execMaskmovq reg rm seg s
  | .movntq reg m => Sys2Proof.Machine.execMovntq reg m s
  | .movntps reg m => Sys2Proof.Machine.execMovntps reg m s
  | .prefetcht0 m => Sys2Proof.Machine.execPrefetcht0 m s
  | .prefetcht1 m => Sys2Proof.Machine.execPrefetcht1 m s
  | .prefetcht2 m => Sys2Proof.Machine.execPrefetcht2 m s
  | .prefetchnta m => Sys2Proof.Machine.execPrefetchnta m s
  | .movapd dir reg rm => Sys2Proof.Machine.execMovapd dir reg rm s
  | .movupd dir reg rm => Sys2Proof.Machine.execMovupd dir reg rm s
  | .movsd dir reg rm => Sys2Proof.Machine.execMovsd dir reg rm s
  | .movlpd dir reg m => Sys2Proof.Machine.execMovlpd dir reg m s
  | .movhpd dir reg m => Sys2Proof.Machine.execMovhpd dir reg m s
  | .movmskpd reg rm => Sys2Proof.Machine.execMovmskpd reg rm s
  | .addpd reg rm => Sys2Proof.Machine.execAddpd reg rm s
  | .addsd reg rm => Sys2Proof.Machine.execAddsd reg rm s
  | .subpd reg rm => Sys2Proof.Machine.execSubpd reg rm s
  | .subsd reg rm => Sys2Proof.Machine.execSubsd reg rm s
  | .mulpd reg rm => Sys2Proof.Machine.execMulpd reg rm s
  | .mulsd reg rm => Sys2Proof.Machine.execMulsd reg rm s
  | .divpd reg rm => Sys2Proof.Machine.execDivpd reg rm s
  | .divsd reg rm => Sys2Proof.Machine.execDivsd reg rm s
  | .maxpd reg rm => Sys2Proof.Machine.execMaxpd reg rm s
  | .maxsd reg rm => Sys2Proof.Machine.execMaxsd reg rm s
  | .minpd reg rm => Sys2Proof.Machine.execMinpd reg rm s
  | .minsd reg rm => Sys2Proof.Machine.execMinsd reg rm s
  | .sqrtpd reg rm => Sys2Proof.Machine.execSqrtpd reg rm s
  | .sqrtsd reg rm => Sys2Proof.Machine.execSqrtsd reg rm s
  | .cmppd reg rm pred => Sys2Proof.Machine.execCmppd reg rm pred s
  | .cmpsd reg rm pred => Sys2Proof.Machine.execCmpsd reg rm pred s
  | .comisd reg rm => Sys2Proof.Machine.execComisd reg rm s
  | .ucomisd reg rm => Sys2Proof.Machine.execUcomisd reg rm s
  | .andpd reg rm => Sys2Proof.Machine.execAndpd reg rm s
  | .andnpd reg rm => Sys2Proof.Machine.execAndnpd reg rm s
  | .orpd reg rm => Sys2Proof.Machine.execOrpd reg rm s
  | .xorpd reg rm => Sys2Proof.Machine.execXorpd reg rm s
  | .shufpd reg rm imm => Sys2Proof.Machine.execShufpd reg rm imm s
  | .unpckhpd reg rm => Sys2Proof.Machine.execUnpckhpd reg rm s
  | .unpcklpd reg rm => Sys2Proof.Machine.execUnpcklpd reg rm s
  | .cvtpd2pi reg rm => Sys2Proof.Machine.execCvtpd2pi reg rm s
  | .cvttpd2pi reg rm => Sys2Proof.Machine.execCvttpd2pi reg rm s
  | .cvtpi2pd reg rm => Sys2Proof.Machine.execCvtpi2pd reg rm s
  | .cvtpd2dq reg rm => Sys2Proof.Machine.execCvtpd2dq reg rm s
  | .cvttpd2dq reg rm => Sys2Proof.Machine.execCvttpd2dq reg rm s
  | .cvtdq2pd reg rm => Sys2Proof.Machine.execCvtdq2pd reg rm s
  | .cvtps2pd reg rm => Sys2Proof.Machine.execCvtps2pd reg rm s
  | .cvtpd2ps reg rm => Sys2Proof.Machine.execCvtpd2ps reg rm s
  | .cvtss2sd reg rm => Sys2Proof.Machine.execCvtss2sd reg rm s
  | .cvtsd2ss reg rm => Sys2Proof.Machine.execCvtsd2ss reg rm s
  | .cvtsd2si reg rm => Sys2Proof.Machine.execCvtsd2si reg rm s
  | .cvttsd2si reg rm => Sys2Proof.Machine.execCvttsd2si reg rm s
  | .cvtsi2sd reg rm => Sys2Proof.Machine.execCvtsi2sd reg rm s
  | .cvtdq2ps reg rm => Sys2Proof.Machine.execCvtdq2ps reg rm s
  | .cvtps2dq reg rm => Sys2Proof.Machine.execCvtps2dq reg rm s
  | .cvttps2dq reg rm => Sys2Proof.Machine.execCvttps2dq reg rm s
  | .movdXmm dir reg rm => Sys2Proof.Machine.execMovdXmm dir reg rm s
  | .movqXmm dir reg rm => Sys2Proof.Machine.execMovqXmm dir reg rm s
  | .paddbXmm reg rm => Sys2Proof.Machine.execPaddbXmm reg rm s
  | .paddwXmm reg rm => Sys2Proof.Machine.execPaddwXmm reg rm s
  | .padddXmm reg rm => Sys2Proof.Machine.execPadddXmm reg rm s
  | .paddsbXmm reg rm => Sys2Proof.Machine.execPaddsbXmm reg rm s
  | .paddswXmm reg rm => Sys2Proof.Machine.execPaddswXmm reg rm s
  | .paddusbXmm reg rm => Sys2Proof.Machine.execPaddusbXmm reg rm s
  | .padduswXmm reg rm => Sys2Proof.Machine.execPadduswXmm reg rm s
  | .psubbXmm reg rm => Sys2Proof.Machine.execPsubbXmm reg rm s
  | .psubwXmm reg rm => Sys2Proof.Machine.execPsubwXmm reg rm s
  | .psubdXmm reg rm => Sys2Proof.Machine.execPsubdXmm reg rm s
  | .psubsbXmm reg rm => Sys2Proof.Machine.execPsubsbXmm reg rm s
  | .psubswXmm reg rm => Sys2Proof.Machine.execPsubswXmm reg rm s
  | .psubusbXmm reg rm => Sys2Proof.Machine.execPsubusbXmm reg rm s
  | .psubuswXmm reg rm => Sys2Proof.Machine.execPsubuswXmm reg rm s
  | .pmullwXmm reg rm => Sys2Proof.Machine.execPmullwXmm reg rm s
  | .pmulhwXmm reg rm => Sys2Proof.Machine.execPmulhwXmm reg rm s
  | .pmaddwdXmm reg rm => Sys2Proof.Machine.execPmaddwdXmm reg rm s
  | .pcmpeqbXmm reg rm => Sys2Proof.Machine.execPcmpeqbXmm reg rm s
  | .pcmpeqwXmm reg rm => Sys2Proof.Machine.execPcmpeqwXmm reg rm s
  | .pcmpeqdXmm reg rm => Sys2Proof.Machine.execPcmpeqdXmm reg rm s
  | .pcmpgtbXmm reg rm => Sys2Proof.Machine.execPcmpgtbXmm reg rm s
  | .pcmpgtwXmm reg rm => Sys2Proof.Machine.execPcmpgtwXmm reg rm s
  | .pcmpgtdXmm reg rm => Sys2Proof.Machine.execPcmpgtdXmm reg rm s
  | .packsswbXmm reg rm => Sys2Proof.Machine.execPacksswbXmm reg rm s
  | .packssdwXmm reg rm => Sys2Proof.Machine.execPackssdwXmm reg rm s
  | .packuswbXmm reg rm => Sys2Proof.Machine.execPackuswbXmm reg rm s
  | .punpckhbwXmm reg rm => Sys2Proof.Machine.execPunpckhbwXmm reg rm s
  | .punpckhwdXmm reg rm => Sys2Proof.Machine.execPunpckhwdXmm reg rm s
  | .punpckhdqXmm reg rm => Sys2Proof.Machine.execPunpckhdqXmm reg rm s
  | .punpcklbwXmm reg rm => Sys2Proof.Machine.execPunpcklbwXmm reg rm s
  | .punpcklwdXmm reg rm => Sys2Proof.Machine.execPunpcklwdXmm reg rm s
  | .punpckldqXmm reg rm => Sys2Proof.Machine.execPunpckldqXmm reg rm s
  | .pandXmm reg rm => Sys2Proof.Machine.execPandXmm reg rm s
  | .pandnXmm reg rm => Sys2Proof.Machine.execPandnXmm reg rm s
  | .porXmm reg rm => Sys2Proof.Machine.execPorXmm reg rm s
  | .pxorXmm reg rm => Sys2Proof.Machine.execPxorXmm reg rm s
  | .psllwXmm dst count => Sys2Proof.Machine.execPsllwXmm dst count s
  | .pslldXmm dst count => Sys2Proof.Machine.execPslldXmm dst count s
  | .psllqXmm dst count => Sys2Proof.Machine.execPsllqXmm dst count s
  | .psrlwXmm dst count => Sys2Proof.Machine.execPsrlwXmm dst count s
  | .psrldXmm dst count => Sys2Proof.Machine.execPsrldXmm dst count s
  | .psrlqXmm dst count => Sys2Proof.Machine.execPsrlqXmm dst count s
  | .psrawXmm dst count => Sys2Proof.Machine.execPsrawXmm dst count s
  | .psradXmm dst count => Sys2Proof.Machine.execPsradXmm dst count s
  | .pavgbXmm reg rm => Sys2Proof.Machine.execPavgbXmm reg rm s
  | .pavgwXmm reg rm => Sys2Proof.Machine.execPavgwXmm reg rm s
  | .pextrwXmm reg rm imm => Sys2Proof.Machine.execPextrwXmm reg rm imm s
  | .pinsrwXmm reg rm imm => Sys2Proof.Machine.execPinsrwXmm reg rm imm s
  | .pmaxswXmm reg rm => Sys2Proof.Machine.execPmaxswXmm reg rm s
  | .pmaxubXmm reg rm => Sys2Proof.Machine.execPmaxubXmm reg rm s
  | .pminswXmm reg rm => Sys2Proof.Machine.execPminswXmm reg rm s
  | .pminubXmm reg rm => Sys2Proof.Machine.execPminubXmm reg rm s
  | .pmovmskbXmm reg rm => Sys2Proof.Machine.execPmovmskbXmm reg rm s
  | .pmulhuwXmm reg rm => Sys2Proof.Machine.execPmulhuwXmm reg rm s
  | .psadbwXmm reg rm => Sys2Proof.Machine.execPsadbwXmm reg rm s
  | .movdqa dir reg rm => Sys2Proof.Machine.execMovdqa dir reg rm s
  | .movdqu dir reg rm => Sys2Proof.Machine.execMovdqu dir reg rm s
  | .movdq2q reg rm => Sys2Proof.Machine.execMovdq2q reg rm s
  | .movq2dq reg rm => Sys2Proof.Machine.execMovq2dq reg rm s
  | .paddqMm reg rm => Sys2Proof.Machine.execPaddqMm reg rm s
  | .paddqXmm reg rm => Sys2Proof.Machine.execPaddqXmm reg rm s
  | .psubqMm reg rm => Sys2Proof.Machine.execPsubqMm reg rm s
  | .psubqXmm reg rm => Sys2Proof.Machine.execPsubqXmm reg rm s
  | .pmuludqMm reg rm => Sys2Proof.Machine.execPmuludqMm reg rm s
  | .pmuludqXmm reg rm => Sys2Proof.Machine.execPmuludqXmm reg rm s
  | .pshufd reg rm imm => Sys2Proof.Machine.execPshufd reg rm imm s
  | .pshufhw reg rm imm => Sys2Proof.Machine.execPshufhw reg rm imm s
  | .pshuflw reg rm imm => Sys2Proof.Machine.execPshuflw reg rm imm s
  | .pslldq rm imm => Sys2Proof.Machine.execPslldq rm imm s
  | .psrldq rm imm => Sys2Proof.Machine.execPsrldq rm imm s
  | .punpckhqdqXmm reg rm => Sys2Proof.Machine.execPunpckhqdqXmm reg rm s
  | .punpcklqdqXmm reg rm => Sys2Proof.Machine.execPunpcklqdqXmm reg rm s
  | .clflush m => Sys2Proof.Machine.execClflush m s
  | .movntpd reg m => Sys2Proof.Machine.execMovntpd reg m s
  | .movntdq reg m => Sys2Proof.Machine.execMovntdq reg m s
  | .maskmovdqu reg rm seg => Sys2Proof.Machine.execMaskmovdqu reg rm seg s
  | .movnti reg m => Sys2Proof.Machine.execMovnti reg m s
  | .emms => Sys2Proof.Machine.execEmms s
  | .sfence => Sys2Proof.Machine.execSfence s
  | .lfence => Sys2Proof.Machine.execLfence s
  | .mfence => Sys2Proof.Machine.execMfence s
  | .pause => Sys2Proof.Machine.execPause s

end Sys2Proof.Machine
end

