-- ==== Sys2Proof/Machine/Fetch.lean ====
section
/-! DEFINITION. Fetching an instruction's bytes, and moving past them (10_state.md rule R31; 20_memory.md rules R90,
R103; 30_encoding.md rules R141, R142; 60_exceptions.md rule R675 (1)). -/

namespace Sys2Proof.Machine

/-- Did a store of this run write the byte at a linear address (20_memory.md rule R103; log 13)? -/
def State.wasStored (s : State) (a : Nat) : Bool :=
  s.stored.any fun r => decide (r.1 ≤ s.phys a) && decide (s.phys a < r.1 + r.2)

/-- The linear address of the instruction at `eip`. -/
def State.fetchAddr (s : State) : Nat := s.linear .cs s.eip

/-- The byte at `eip + i`: past the address space the fetch is refused; past the code segment's limit it is #GP(0), in
a page that forbids the fetch #PF; a byte that is not write-back memory, or that a store of this run wrote, is not fetched. -/
def State.fetchByte (s : State) (i : Nat) : Res Byte :=
  let a := s.fetchAddr + i
  if 0x100000000 ≤ s.eip.toNat + i then .error (.refuse .addressWrap)
  else if s.segs.cs.limit.toNat < s.eip.toNat + i then raise (.zero .gp)
  else if 0x100000000 ≤ a then .error (.refuse .addressWrap)
  else
    match s.pageFault .fetch a with
    | some code => raise { exn := .pf, code := some code, addr := some (BitVec.ofNat 32 a), conditions := 0#6 }
    | none =>
      if s.memType a ≠ .writeBack then .error (.refuse .otherMemoryType)
      else if s.wasStored a then .error (.refuse .fetchOfStoredByte)
      else .ok (Memory.read s.mem (s.phys a))

/-- The bytes from `eip + i` on, at most `n` of them, and what stops the fetch of the next one, if anything does. -/
def State.window (s : State) : Nat → Nat → List Byte × Option Stop
  | 0, _ => ([], none)
  | n + 1, i =>
    match s.fetchByte i with
    | .ok b => (b :: (s.window n (i + 1)).1, (s.window n (i + 1)).2)
    | .error e => ([], some e)

/-- The 15 bytes an instruction can have (R141). -/
def State.fetch (s : State) : List Byte × Option Stop := s.window 15 0

/-- Why the bytes at `eip` are no whole instruction: the fetch's own reason, or, with all 15 bytes there, that the
instruction is longer (#GP(0), R141; log 15). -/
def shortFetch (stop : Option Stop) : Stop := stop.getD (.raise (.zero .gp))

/-- `eip <- eip + L` modulo 2^32 after an instruction that completed; one that raised keeps its `eip` (R31, R142). -/
def advance (len : Nat) (s : State) : State :=
  match s.raised with
  | some _ => s
  | none => { s with eip := s.eip + BitVec.ofNat 32 len }

/-- The refusal that a decoder's refusal stands for. -/
def refusalOf : DecodeRefusal → Refusal
  | .unknownOpcode => .unknownOpcode
  | .mandatoryPrefixMisuse => .mandatoryPrefixMisuse
  | .repeatedPrefix => .repeatedPrefix
  | .laterExtensionForm => .laterExtensionForm
  | .addressSize16 => .addressSize16
  | .reservedHint => .reservedHint
  | .reservedFence => .reservedFence
  | .reservedPredicate => .reservedPredicate

/-- Bytes written to memory at their physical addresses, from a linear address upwards. -/
def State.writeAt (s : State) (m : List Host.Cell) : Nat → List Byte → List Host.Cell
  | _, [] => m
  | a, b :: bs => s.writeAt (Memory.write m (s.phys a) b) (a + 1) bs

/-- Bytes placed in memory at `eip` from outside the machine; a mark of an earlier store over them is lifted, for the
fetch would be refused (log 21). -/
def State.placeCode (s : State) (bytes : List Byte) : State :=
  { s with
    mem := s.writeAt s.mem s.fetchAddr bytes
    stored := s.stored.filter fun r => (List.range bytes.length).all fun i =>
      !(decide (r.1 ≤ s.phys (s.fetchAddr + i)) && decide (s.phys (s.fetchAddr + i) < r.1 + r.2)) }

end Sys2Proof.Machine
end

