-- ==== Sys2Proof/Machine/Step.lean ====
section
/-! DEFINITION. One step of the machine: what drains, the fetch, the decoding, the instruction, `eip`. -/

namespace Sys2Proof.Machine

/-- An outcome after which `eip` has moved past an instruction of `len` bytes (30_encoding.md rule R142). -/
def past (len : Nat) (o : Result) : Result :=
  match o with
  | .next t => .next (advance len t)
  | .fault f => .fault f
  | .refused r => .refused r

/-- The instruction at `eip` (60_exceptions.md rule R675 (1), (2)). -/
def runNext (s : State) : Result :=
  match decode s.plat.ext s.fetch.1 with
  | .instr i len => past len (exec i s)
  | .undefined => settle s (raise (.plain .ud))
  | .refused why => .refused (refusalOf why)
  | .needMore => settle s (.error (shortFetch s.fetch.2))

/-- One step. A state that has taken an exception does what `DELIVER` says: the run ends with the exception, or the host
delivers it (60_exceptions.md rule R662; log 5). Otherwise stores may drain (20_memory.md rule R96 (c)) and then the
instruction at `eip` runs. -/
def step (s : State) : Host.Outcome State Fault Refusal :=
  match s.raised with
  | some r =>
    match s.plat.deliver with
    | .endRun => .fault (.exception r)
    | .host => .next s.deliver
  | none => runNext s.drain

/-- The state with the instruction of a table word stored where `step` fetches next (log 21). -/
def State.withFetchWord (s : State) (nbits w : Nat) : State := s.placeCode (tableBytes nbits w)

end Sys2Proof.Machine
end

