-- ==== Sys2Proof/Safety.lean ====
section
/-! DEFINITION. What is true of every state of a run: the terms in which claims speak of a safe machine. -/

namespace Sys2Proof.Machine

/-- A pending store covers at least one byte and lies inside the address space (20_memory.md rules R80, R95). -/
def SbEntry.inSpace : SbEntry → Bool
  | .store _ a bytes => decide (0 < bytes.length) && decide (a + bytes.length ≤ 0x100000000)
  | .sf => true

/-- Every listed address exists (20_memory.md rule R80). -/
def Memory.inSpace (m : List Host.Cell) : Bool := m.all fun c => decide (c.1 < 0x100000000)

/-- A store-fence marker never stands first in the buffer (20_memory.md rule R96 (c), last sentence). -/
def fenceNotFirst : List SbEntry → Bool
  | .sf :: _ => false
  | _ => true

/-- The invariant of the machine: memory is canonical and within the address space, so is every pending store, no
marker stands first in the buffer, and the reserved bits of MXCSR are zero (10_state.md rule R40). -/
def State.Inv (s : State) : Prop :=
  Memory.wf s.mem = true ∧ Memory.inSpace s.mem = true ∧ s.sb.all SbEntry.inSpace = true ∧ fenceNotFirst s.sb = true ∧
    s.mxcsrReserved s.mxcsr = false

/-- The step ends neither in a fault nor in a refusal. -/
def State.goesOn (s : State) : Prop := ∃ t, step s = .next t

end Sys2Proof.Machine
end

