-- ==== Sys2Proof/Certificates/Slice0/Obligations.lean ====
section
/-! DEFINITION. The statements for the provers: first the terms they are said in (namespace Sys2Proof.Spec), written from
the rules of spec/ and not from the model's own operations wherever the rule gives a formula; then one definition
`Obligations.<Name>` for each statement. -/

namespace Sys2Proof.Spec

open Sys2Proof.Machine

/-! ## The conditions under which an instruction runs (60_exceptions.md rules R663 to R670) -/

/-- The classes of R663 to R670, by the availability checks they make: M; X (which F and S share); XM; FX; H (which C
shares). -/
inductive Klass where
  | m | x | xm | fx | h
deriving DecidableEq, Repr

/-- Class and feature of every instruction: the table of R671. CVTPI2PD with a memory source makes the checks of class X
(R666); PAUSE tests no feature, so it has the one every processor has. -/
def klass : Instr → Klass × Ext
  | .movdMm .. | .movqMm .. | .paddbMm .. | .paddwMm .. | .padddMm .. | .paddsbMm .. | .paddswMm .. | .paddusbMm ..
  | .padduswMm .. | .psubbMm .. | .psubwMm .. | .psubdMm .. | .psubsbMm .. | .psubswMm .. | .psubusbMm ..
  | .psubuswMm .. | .pmullwMm .. | .pmulhwMm .. | .pmaddwdMm .. | .pcmpeqbMm .. | .pcmpeqwMm .. | .pcmpeqdMm ..
  | .pcmpgtbMm .. | .pcmpgtwMm .. | .pcmpgtdMm .. | .packsswbMm .. | .packssdwMm .. | .packuswbMm ..
  | .punpckhbwMm .. | .punpckhwdMm .. | .punpckhdqMm .. | .punpcklbwMm .. | .punpcklwdMm .. | .punpckldqMm ..
  | .pandMm .. | .pandnMm .. | .porMm .. | .pxorMm .. | .psllwMm .. | .pslldMm .. | .psllqMm .. | .psrlwMm ..
  | .psrldMm .. | .psrlqMm .. | .psrawMm .. | .psradMm .. | .emms => (.m, .mmx)
  | .movaps .. | .movups .. | .movss .. | .movlps .. | .movhps .. | .movhlps .. | .movlhps .. | .movmskps ..
  | .addps .. | .addss .. | .subps .. | .subss .. | .mulps .. | .mulss .. | .divps .. | .divss .. | .maxps ..
  | .maxss .. | .minps .. | .minss .. | .sqrtps .. | .sqrtss .. | .rcpps .. | .rcpss .. | .rsqrtps .. | .rsqrtss ..
  | .cmpps .. | .cmpss .. | .comiss .. | .ucomiss .. | .cvtsi2ss .. | .cvtss2si .. | .cvttss2si .. | .andps ..
  | .andnps .. | .orps .. | .xorps .. | .shufps .. | .unpckhps .. | .unpcklps .. | .ldmxcsr .. | .stmxcsr ..
  | .movntps .. => (.x, .sse)
  | .cvtpi2ps .. | .cvtps2pi .. | .cvttps2pi .. => (.xm, .sse)
  | .pavgbMm .. | .pavgwMm .. | .pextrwMm .. | .pinsrwMm .. | .pmaxswMm .. | .pmaxubMm .. | .pminswMm ..
  | .pminubMm .. | .pmovmskbMm .. | .pmulhuwMm .. | .psadbwMm .. | .pshufw .. | .maskmovq .. | .movntq .. => (.m, .sse)
  | .fxsave .. | .fxrstor .. => (.fx, .sse)
  | .prefetcht0 .. | .prefetcht1 .. | .prefetcht2 .. | .prefetchnta .. | .sfence => (.h, .sse)
  | .movapd .. | .movupd .. | .movsd .. | .movlpd .. | .movhpd .. | .movmskpd .. | .addpd .. | .addsd ..
  | .subpd .. | .subsd .. | .mulpd .. | .mulsd .. | .divpd .. | .divsd .. | .maxpd .. | .maxsd .. | .minpd ..
  | .minsd .. | .sqrtpd .. | .sqrtsd .. | .cmppd .. | .cmpsd .. | .comisd .. | .ucomisd .. | .andpd .. | .andnpd ..
  | .orpd .. | .xorpd .. | .shufpd .. | .unpckhpd .. | .unpcklpd .. | .cvtpd2dq .. | .cvttpd2dq .. | .cvtdq2pd ..
  | .cvtps2pd .. | .cvtpd2ps .. | .cvtss2sd .. | .cvtsd2ss .. | .cvtsd2si .. | .cvttsd2si .. | .cvtsi2sd ..
  | .cvtdq2ps .. | .cvtps2dq .. | .cvttps2dq .. | .movdXmm .. | .movqXmm .. | .paddbXmm .. | .paddwXmm ..
  | .padddXmm .. | .paddsbXmm .. | .paddswXmm .. | .paddusbXmm .. | .padduswXmm .. | .psubbXmm .. | .psubwXmm ..
  | .psubdXmm .. | .psubsbXmm .. | .psubswXmm .. | .psubusbXmm .. | .psubuswXmm .. | .pmullwXmm .. | .pmulhwXmm ..
  | .pmaddwdXmm .. | .pcmpeqbXmm .. | .pcmpeqwXmm .. | .pcmpeqdXmm .. | .pcmpgtbXmm .. | .pcmpgtwXmm ..
  | .pcmpgtdXmm .. | .packsswbXmm .. | .packssdwXmm .. | .packuswbXmm .. | .punpckhbwXmm .. | .punpckhwdXmm ..
  | .punpckhdqXmm .. | .punpcklbwXmm .. | .punpcklwdXmm .. | .punpckldqXmm .. | .pandXmm .. | .pandnXmm ..
  | .porXmm .. | .pxorXmm .. | .psllwXmm .. | .pslldXmm .. | .psllqXmm .. | .psrlwXmm .. | .psrldXmm ..
  | .psrlqXmm .. | .psrawXmm .. | .psradXmm .. | .pavgbXmm .. | .pavgwXmm .. | .pextrwXmm .. | .pinsrwXmm ..
  | .pmaxswXmm .. | .pmaxubXmm .. | .pminswXmm .. | .pminubXmm .. | .pmovmskbXmm .. | .pmulhuwXmm ..
  | .psadbwXmm .. | .movdqa .. | .movdqu .. | .paddqXmm .. | .psubqXmm .. | .pmuludqXmm .. | .pshufd ..
  | .pshufhw .. | .pshuflw .. | .pslldq .. | .psrldq .. | .punpckhqdqXmm .. | .punpcklqdqXmm .. | .movntpd ..
  | .movntdq .. | .maskmovdqu .. => (.x, .sse2)
  | .cvtpd2pi .. | .cvttpd2pi .. | .movdq2q .. | .movq2dq .. => (.xm, .sse2)
  | .paddqMm .. | .psubqMm .. | .pmuludqMm .. => (.m, .sse2)
  | .clflush .. | .movnti .. | .lfence | .mfence => (.h, .sse2)
  | .pause => (.h, .mmx)
  | .cvtpi2pd _ (.reg _) => (.xm, .sse2)
  | .cvtpi2pd _ (.mem _) => (.x, .sse2)

/-- Class M passes its checks: the feature is there, `cr0.EM` (bit 2) and `cr0.TS` (bit 3) are 0, no x87 exception is
pending (`fsw` bit 7) (R663). -/
def ReadyM (x : Ext) (s : State) : Prop :=
  s.plat.ext.has x = true ∧ s.cr0.getLsbD 2 = false ∧ s.cr0.getLsbD 3 = false ∧ s.fsw.getLsbD 7 = false

/-- Classes X, F and S pass: feature, `cr0.EM` 0, `cr4.OSFXSR` (bit 9) 1, `cr0.TS` 0 (R664, R665, R667). -/
def ReadyX (x : Ext) (s : State) : Prop :=
  s.plat.ext.has x = true ∧ s.cr0.getLsbD 2 = false ∧ s.cr4.getLsbD 9 = true ∧ s.cr0.getLsbD 3 = false

/-- Class XM passes: as class X, and no x87 exception is pending (R666). -/
def ReadyXM (x : Ext) (s : State) : Prop := ReadyX x s ∧ s.fsw.getLsbD 7 = false

/-- Class FX passes: feature, `cr0.TS` and `cr0.EM` 0 (R668). -/
def ReadyFX (x : Ext) (s : State) : Prop :=
  s.plat.ext.has x = true ∧ s.cr0.getLsbD 3 = false ∧ s.cr0.getLsbD 2 = false

/-- Classes H and C pass: the feature (R669, R670). -/
def ReadyH (x : Ext) (s : State) : Prop := s.plat.ext.has x = true

/-- The instruction passes the availability checks of its class. -/
def Ready (i : Instr) (s : State) : Prop :=
  match klass i with
  | (.m, x) => ReadyM x s
  | (.x, x) => ReadyX x s
  | (.xm, x) => ReadyXM x s
  | (.fx, x) => ReadyFX x s
  | (.h, x) => ReadyH x s

/-! ## Memory operands (20_memory.md rules R82 to R89) -/

/-- `M`, the linear address of a memory operand (R82). -/
def place (s : State) (m : MemOp) : Nat := s.linear m.seg (s.effAddr m)

/-- A segment is readable, or writable for a write. -/
def rightOf (g : Segment) (write : Bool) : Bool := if write then g.writable else g.readable

/-- The page range that holds a linear address. -/
def rangeOf (s : State) (a : Nat) : Option PageRange :=
  s.plat.pages.find? fun p => decide (p.lo ≤ a / 4096) && decide (a / 4096 ≤ p.hi)

/-- The access kind of an operand (R94). -/
def kindOf (write : Bool) : AccessKind := if write then .write else .read

/-- Paging lets the byte be accessed (R83 step 3, R94; log 18). -/
def PageOpen (s : State) (kind : AccessKind) (a : Nat) : Prop :=
  ∀ p, rangeOf s a = some p → p.present = true ∧ (s.cpl, kind) ∈ p.rights

/-- The error code of a page fault: bit 0 protection, bit 1 write, bit 2 `cpl` 3 (R660). -/
def pageCode (s : State) (kind : AccessKind) (p : PageRange) : Dword :=
  (if p.present then 1#32 else 0#32) + (if kind = .write then 2#32 else 0#32) + (if s.cpl = 3#2 then 4#32 else 0#32)

/-- The physical address of a linear one: itself where no range holds it (R94; log 18). -/
def physOf (s : State) (a : Nat) : Nat :=
  match rangeOf s a with
  | none => a % 2 ^ 32
  | some p => ((p.frame + (a / 4096 - p.lo)) * 4096 + a % 4096) % 2 ^ 32

/-- The byte is in write-back memory (R92; log 9). -/
def WriteBack (s : State) (a : Nat) : Prop :=
  ∀ r, (s.plat.memTypes.find? fun r => decide (r.lo ≤ physOf s a) && decide (physOf s a ≤ r.hi)) = some r → r.type = .writeBack

/-- A store of this run wrote the byte (R103; log 13). -/
def Written (s : State) (a : Nat) : Prop := ∃ r ∈ s.stored, r.1 ≤ physOf s a ∧ physOf s a < r.1 + r.2

/-- The alignment check is on: `cr0.AM`, `eflags.AC`, `cpl = 3` (00_scope.md rule R9). -/
def AcOn (s : State) : Prop := s.cr0.getLsbD 18 = true ∧ s.eflags.getLsbD 18 = true ∧ s.cpl = 3#2

/-- No check of R83 stops an access to the bytes at some offsets from `seg:ea`, and all are write-back memory (R92). An offset
that runs past 2^32 counts as the last one of the segment (log 17). -/
structure Reach (s : State) (write : Bool) (al : Align) (seg : Seg) (ea : Dword) (offs : List Nat) : Prop where
  aligned : al = .must16 → s.linear seg ea % 16 = 0
  right   : ∀ o ∈ offs, rightOf (s.segment seg) write = true ∧ min (ea.toNat + o) 0xFFFFFFFF ≤ (s.segment seg).limit.toNat
  pages   : ∀ o ∈ offs, PageOpen s (kindOf write) (s.linear seg ea + o)
  checked : al = .checked → AcOn s → s.linear seg ea % offs.length = 0
  space   : ∀ o ∈ offs, s.linear seg ea + o < 0x100000000
  memory  : ∀ o ∈ offs, WriteBack s (s.linear seg ea + o)

/-- `n` bytes at an operand can be read. -/
def CanRead (s : State) (al : Align) (m : MemOp) (n : Nat) : Prop :=
  Reach s false al m.seg (s.effAddr m) (List.range n)

/-- `n` bytes at an operand can be written. -/
def CanWrite (s : State) (al : Align) (m : MemOp) (n : Nat) : Prop :=
  Reach s true al m.seg (s.effAddr m) (List.range n)

/-- The bytes the processor reads from an address upwards are those of a value, least significant first (R81). -/
def Spells (s : State) (a : Nat) {w : Nat} (v : BitVec w) : Prop :=
  ∀ i, i < w / 8 → s.byte (a + i) = v.extractLsb' (8 * i) 8

/-- `b` is what a register-or-memory operand of `w` bits holds: the register's low bits, or memory that can be read. -/
def Holds {k : Nat} (s : State) (al : Align) (read : Reg → BitVec k) (rm : RM) {w : Nat} (b : BitVec w) : Prop :=
  match rm with
  | .reg r => b = (read r).setWidth w
  | .mem m => CanRead s al m (w / 8) ∧ Spells s (place s m) b

/-- Every byte reads as before. -/
def SameBytes (s t : State) : Prop := ∀ a, t.byte a = s.byte a

/-! ## What an instruction leaves -/

/-- Only `mm[r]` has changed, to `v`, with the side effects of 10_state.md rule R35: bits 79:64 of `fpr[r]` ones, `top`
(bits 13:11 of `fsw`) 0, every tag valid. -/
def WroteMm (s t : State) (r : Reg) (v : Qword) : Prop :=
  t = { s with fpr := s.fpr.set r.toNat (0xFFFF#16 ++ v) r.isLt, fsw := s.fsw &&& 0xC7FF#16, ftw := 0#16 } ∧
    SameBytes s t

/-- Only `xmm[r]` has changed, to `v`. -/
def WroteXmm (s t : State) (r : Reg) (v : Xmm) : Prop :=
  t = { s with xmm := s.xmm.set r.toNat v r.isLt } ∧ SameBytes s t

/-- Only `r32[r]` has changed, to `v`. -/
def WroteGpr (s t : State) (r : Reg) (v : Dword) : Prop :=
  t = { s with gpr := s.gpr.set r.toNat v r.isLt } ∧ SameBytes s t

/-- The state with the x87 side effects of an instruction that names an MMX register and writes none (R35). -/
def valid (s : State) : State := { s with fsw := s.fsw &&& 0xC7FF#16, ftw := 0#16 }

/-- The state with numeric conditions ORed into MXCSR's flag bits (41_fp_numerics.md rule R294 step 4). -/
def flagged (s : State) (c : BitVec 6) : State := { s with mxcsr := s.mxcsr ||| c.setWidth 32 }

/-- Every one of these conditions is masked: MXCSR bits 12:7 (10_state.md rule R40). -/
def Masked (mx : Dword) (c : BitVec 6) : Prop := c &&& ~~~mx.extractLsb' 7 6 = 0#6

/-- Only the bytes of `v` at `a` have changed: they entered the store buffer, by their physical addresses, as entries of one
kind, whole where R91 says that the store is atomic; the low half of an aligned 16-byte store first is log 7's choice. -/
structure Stored (s t : State) (nonTemporal : Bool) (a : Nat) {w : Nat} (v : BitVec w) : Prop where
  rest   : t = { s with sb := t.sb, stored := t.stored }
  bytes  : Spells t a v
  others : ∀ x, (∀ i, i < w / 8 → physOf s x ≠ physOf s (a + i)) → t.byte x = s.byte x
  queued : ∃ new, t.sb = s.sb ++ new ∧
    ∀ e ∈ new, ∃ p bs, e = SbEntry.store nonTemporal p bs ∧ ∀ j, j < bs.length → ∃ i, i < w / 8 ∧ p + j = physOf s (a + i)
  whole  : w ≤ 64 → a % (w / 8) = 0 → ∃ bs, bs.length = w / 8 ∧ t.sb = s.sb ++ [.store nonTemporal (physOf s a) bs]
  halves : w = 128 → a % 16 = 0 → ∃ lo hi, lo.length = 8 ∧ hi.length = 8 ∧
    t.sb = s.sb ++ [.store nonTemporal (physOf s a) lo, .store nonTemporal (physOf s (a + 8)) hi]

/-- An exception taken (60_exceptions.md rules R661, R662): only the record of it has changed, with `eip` at the
instruction, and for a page fault CR2. -/
def took (s : State) (e : Exn) (code : Option Dword) (addr : Option Dword) : State :=
  { s with raised := some { exn := e, errorCode := code, eip := s.eip, faultAddr := addr }, cr2 := addr.getD s.cr2 }

/-! ## Packed integers (00_scope.md rules R11 to R13) -/

/-- The nearest of the signed numbers of `w` bits (R13). -/
def clampS (w : Nat) (n : Int) : BitVec w :=
  if n < -(2 ^ (w - 1) : Int) then BitVec.ofInt w (-(2 ^ (w - 1) : Int))
  else if (2 ^ (w - 1) : Int) - 1 < n then BitVec.ofInt w ((2 ^ (w - 1) : Int) - 1)
  else BitVec.ofInt w n

/-- The nearest of the unsigned numbers of `w` bits (R13). -/
def clampU (w : Nat) (n : Int) : BitVec w :=
  if n < 0 then 0#w else if (2 ^ w : Int) ≤ n then BitVec.allOnes w else BitVec.ofInt w n

/-- Ones for true, zeros for false. -/
def ones (w : Nat) (p : Prop) [Decidable p] : BitVec w := if p then BitVec.allOnes w else 0#w

/-- Selector `k` of a shuffle: two bits of the immediate (30_encoding.md rule R131). -/
def sel (imm : Imm8) (k : Nat) : Nat := imm.toNat / 4 ^ k % 4

/-- A two-operand instruction on registers of `k` bits, source of `j` bits, and lane `i` of its result. -/
structure Row (k j : Nat) where
  ext   : Ext
  make  : Reg → RM → Instr
  width : Nat
  value : Nat → BitVec k → BitVec j → BitVec width

/-- The MMX and the XMM form of one packed operation: `ext` is the feature of the MMX form. -/
structure Packed where
  ext   : Ext
  mm    : Reg → RM → Instr
  xmm   : Reg → RM → Instr
  width : Nat
  value : (k : Nat) → Nat → BitVec k → BitVec k → BitVec width

/-- A packed operation that works lane by lane. -/
def each (x : Ext) (mm xmm : Reg → RM → Instr) (w : Nat) (f : BitVec w → BitVec w → BitVec w) : Packed :=
  ⟨x, mm, xmm, w, fun _ i a b => f (lane w i a) (lane w i b)⟩

/-- The packed integer operations that have an MMX and an XMM form of one shape (rules R207 to R235, R239 to R242, R412,
R413, R416 to R419, R421, R422, R628 to R633, and the 128-bit forms of 46_sse2_int128_ext.md,
46_sse2_int128_ext_pack_logic_shift.md and 47_sse2_int128_new.md). -/
def packed : List Packed := [
  each .mmx .paddbMm .paddbXmm 8 fun x y => BitVec.ofNat 8 (x.toNat + y.toNat),
  each .mmx .paddwMm .paddwXmm 16 fun x y => BitVec.ofNat 16 (x.toNat + y.toNat),
  each .mmx .padddMm .padddXmm 32 fun x y => BitVec.ofNat 32 (x.toNat + y.toNat),
  each .sse2 .paddqMm .paddqXmm 64 fun x y => BitVec.ofNat 64 (x.toNat + y.toNat),
  each .mmx .paddsbMm .paddsbXmm 8 fun x y => clampS 8 (x.toInt + y.toInt),
  each .mmx .paddswMm .paddswXmm 16 fun x y => clampS 16 (x.toInt + y.toInt),
  each .mmx .paddusbMm .paddusbXmm 8 fun x y => clampU 8 (x.toNat + y.toNat),
  each .mmx .padduswMm .padduswXmm 16 fun x y => clampU 16 (x.toNat + y.toNat),
  each .mmx .psubbMm .psubbXmm 8 fun x y => BitVec.ofInt 8 (x.toNat - y.toNat : Int),
  each .mmx .psubwMm .psubwXmm 16 fun x y => BitVec.ofInt 16 (x.toNat - y.toNat : Int),
  each .mmx .psubdMm .psubdXmm 32 fun x y => BitVec.ofInt 32 (x.toNat - y.toNat : Int),
  each .sse2 .psubqMm .psubqXmm 64 fun x y => BitVec.ofInt 64 (x.toNat - y.toNat : Int),
  each .mmx .psubsbMm .psubsbXmm 8 fun x y => clampS 8 (x.toInt - y.toInt),
  each .mmx .psubswMm .psubswXmm 16 fun x y => clampS 16 (x.toInt - y.toInt),
  each .mmx .psubusbMm .psubusbXmm 8 fun x y => clampU 8 (x.toNat - y.toNat : Int),
  each .mmx .psubuswMm .psubuswXmm 16 fun x y => clampU 16 (x.toNat - y.toNat : Int),
  each .mmx .pmullwMm .pmullwXmm 16 fun x y => BitVec.ofInt 16 (x.toInt * y.toInt),
  each .mmx .pmulhwMm .pmulhwXmm 16 fun x y => BitVec.ofInt 16 (x.toInt * y.toInt / 65536),
  each .sse .pmulhuwMm .pmulhuwXmm 16 fun x y => BitVec.ofNat 16 (x.toNat * y.toNat / 65536),
  ⟨.mmx, .pmaddwdMm, .pmaddwdXmm, 32, fun _ j a b =>
    BitVec.ofInt 32 ((lane 16 (2 * j) a).toInt * (lane 16 (2 * j) b).toInt +
      (lane 16 (2 * j + 1) a).toInt * (lane 16 (2 * j + 1) b).toInt)⟩,
  ⟨.sse2, .pmuludqMm, .pmuludqXmm, 64, fun _ h a b =>
    BitVec.ofNat 64 ((lane 32 (2 * h) a).toNat * (lane 32 (2 * h) b).toNat)⟩,
  each .sse .pavgbMm .pavgbXmm 8 fun x y => BitVec.ofNat 8 ((x.toNat + y.toNat + 1) / 2),
  each .sse .pavgwMm .pavgwXmm 16 fun x y => BitVec.ofNat 16 ((x.toNat + y.toNat + 1) / 2),
  each .sse .pmaxswMm .pmaxswXmm 16 fun x y => BitVec.ofInt 16 (max x.toInt y.toInt),
  each .sse .pminswMm .pminswXmm 16 fun x y => BitVec.ofInt 16 (min x.toInt y.toInt),
  each .sse .pmaxubMm .pmaxubXmm 8 fun x y => BitVec.ofNat 8 (max x.toNat y.toNat),
  each .sse .pminubMm .pminubXmm 8 fun x y => BitVec.ofNat 8 (min x.toNat y.toNat),
  ⟨.sse, .psadbwMm, .psadbwXmm, 64, fun _ h a b =>
    BitVec.ofNat 64 (((List.range 8).map fun j =>
      (((lane 8 (8 * h + j) a).toNat : Int) - (lane 8 (8 * h + j) b).toNat).natAbs).sum)⟩,
  each .mmx .pcmpeqbMm .pcmpeqbXmm 8 fun x y => ones 8 (x.toNat = y.toNat),
  each .mmx .pcmpeqwMm .pcmpeqwXmm 16 fun x y => ones 16 (x.toNat = y.toNat),
  each .mmx .pcmpeqdMm .pcmpeqdXmm 32 fun x y => ones 32 (x.toNat = y.toNat),
  each .mmx .pcmpgtbMm .pcmpgtbXmm 8 fun x y => ones 8 (y.toInt < x.toInt),
  each .mmx .pcmpgtwMm .pcmpgtwXmm 16 fun x y => ones 16 (y.toInt < x.toInt),
  each .mmx .pcmpgtdMm .pcmpgtdXmm 32 fun x y => ones 32 (y.toInt < x.toInt),
  ⟨.mmx, .packsswbMm, .packsswbXmm, 8, fun k i a b =>
    clampS 8 (if i < k / 16 then (lane 16 i a).toInt else (lane 16 (i - k / 16) b).toInt)⟩,
  ⟨.mmx, .packssdwMm, .packssdwXmm, 16, fun k i a b =>
    clampS 16 (if i < k / 32 then (lane 32 i a).toInt else (lane 32 (i - k / 32) b).toInt)⟩,
  ⟨.mmx, .packuswbMm, .packuswbXmm, 8, fun k i a b =>
    clampU 8 (if i < k / 16 then (lane 16 i a).toInt else (lane 16 (i - k / 16) b).toInt)⟩,
  ⟨.mmx, .punpckhbwMm, .punpckhbwXmm, 8, fun k i a b => lane 8 (k / 16 + i / 2) (if i % 2 = 0 then a else b)⟩,
  ⟨.mmx, .punpckhwdMm, .punpckhwdXmm, 16, fun k i a b => lane 16 (k / 32 + i / 2) (if i % 2 = 0 then a else b)⟩,
  ⟨.mmx, .punpckhdqMm, .punpckhdqXmm, 32, fun k i a b => lane 32 (k / 64 + i / 2) (if i % 2 = 0 then a else b)⟩,
  ⟨.mmx, .pandMm, .pandXmm, 1, fun _ i a b => BitVec.ofBool (a.getLsbD i && b.getLsbD i)⟩,
  ⟨.mmx, .pandnMm, .pandnXmm, 1, fun _ i a b => BitVec.ofBool (!a.getLsbD i && b.getLsbD i)⟩,
  ⟨.mmx, .porMm, .porXmm, 1, fun _ i a b => BitVec.ofBool (a.getLsbD i || b.getLsbD i)⟩,
  ⟨.mmx, .pxorMm, .pxorXmm, 1, fun _ i a b => BitVec.ofBool (a.getLsbD i != b.getLsbD i)⟩]

/-- The MMX forms, and PSHUFW (R423), whose immediate is `imm`. -/
def mmRows (imm : Imm8) : List (Row 64 64) :=
  packed.map (fun p => ⟨p.ext, p.mm, p.width, p.value 64⟩) ++
    [⟨.sse, fun r rm => .pshufw r rm imm, 16, fun k _ b => lane 16 (sel imm k) b⟩]

/-- The MMX forms of the low unpacks, whose memory source is 32 bits (R236 to R238). -/
def mmLowRows : List (Row 64 32) := [
  ⟨.mmx, .punpcklbwMm, 8, fun i a b => if i % 2 = 0 then lane 8 (i / 2) a else lane 8 (i / 2) b⟩,
  ⟨.mmx, .punpcklwdMm, 16, fun i a b => if i % 2 = 0 then lane 16 (i / 2) a else lane 16 (i / 2) b⟩,
  ⟨.mmx, .punpckldqMm, 32, fun i a b => if i % 2 = 0 then lane 32 (i / 2) a else lane 32 (i / 2) b⟩]

/-- The XMM forms; the unpacks, logic and shuffles that have an XMM form alone (R375 to R381, R639, R640, and 44_sse2_fp.md's
logic, shuffle and unpacks; R634 to R636), with immediate `imm`. -/
def xmmRows (imm : Imm8) : List (Row 128 128) :=
  packed.map (fun p => ⟨.sse2, p.xmm, p.width, p.value 128⟩) ++ [
  ⟨.sse2, .punpcklbwXmm, 8, fun i a b => lane 8 (i / 2) (if i % 2 = 0 then a else b)⟩,
  ⟨.sse2, .punpcklwdXmm, 16, fun i a b => lane 16 (i / 2) (if i % 2 = 0 then a else b)⟩,
  ⟨.sse2, .punpckldqXmm, 32, fun i a b => lane 32 (i / 2) (if i % 2 = 0 then a else b)⟩,
  ⟨.sse2, .punpcklqdqXmm, 64, fun i a b => lane 64 0 (if i % 2 = 0 then a else b)⟩,
  ⟨.sse2, .punpckhqdqXmm, 64, fun i a b => lane 64 1 (if i % 2 = 0 then a else b)⟩,
  ⟨.sse, .unpcklps, 32, fun i a b => lane 32 (i / 2) (if i % 2 = 0 then a else b)⟩,
  ⟨.sse, .unpckhps, 32, fun i a b => lane 32 (2 + i / 2) (if i % 2 = 0 then a else b)⟩,
  ⟨.sse2, .unpcklpd, 64, fun i a b => lane 64 0 (if i % 2 = 0 then a else b)⟩,
  ⟨.sse2, .unpckhpd, 64, fun i a b => lane 64 1 (if i % 2 = 0 then a else b)⟩,
  ⟨.sse, .andps, 1, fun i a b => BitVec.ofBool (a.getLsbD i && b.getLsbD i)⟩,
  ⟨.sse, .andnps, 1, fun i a b => BitVec.ofBool (!a.getLsbD i && b.getLsbD i)⟩,
  ⟨.sse, .orps, 1, fun i a b => BitVec.ofBool (a.getLsbD i || b.getLsbD i)⟩,
  ⟨.sse, .xorps, 1, fun i a b => BitVec.ofBool (a.getLsbD i != b.getLsbD i)⟩,
  ⟨.sse2, .andpd, 1, fun i a b => BitVec.ofBool (a.getLsbD i && b.getLsbD i)⟩,
  ⟨.sse2, .andnpd, 1, fun i a b => BitVec.ofBool (!a.getLsbD i && b.getLsbD i)⟩,
  ⟨.sse2, .orpd, 1, fun i a b => BitVec.ofBool (a.getLsbD i || b.getLsbD i)⟩,
  ⟨.sse2, .xorpd, 1, fun i a b => BitVec.ofBool (a.getLsbD i != b.getLsbD i)⟩,
  ⟨.sse, fun r rm => .shufps r rm imm, 32, fun k a b => lane 32 (sel imm k) (if k < 2 then a else b)⟩,
  ⟨.sse2, fun r rm => .shufpd r rm imm, 64, fun k a b => lane 64 (imm.toNat / 2 ^ k % 2) (if k = 0 then a else b)⟩,
  ⟨.sse2, fun r rm => .pshufd r rm imm, 32, fun k _ b => lane 32 (sel imm k) b⟩,
  ⟨.sse2, fun r rm => .pshufhw r rm imm, 16, fun k _ b => lane 16 (if k < 4 then k else 4 + sel imm (k - 4)) b⟩,
  ⟨.sse2, fun r rm => .pshuflw r rm imm, 16, fun k _ b => lane 16 (if k < 4 then sel imm k else k) b⟩]

/-- A shift of every lane by one count. -/
structure ShiftRow where
  mm    : Reg → Count → Instr
  xmm   : Reg → Count → Instr
  width : Nat
  value : Nat → BitVec width → BitVec width

/-- Left by `c`, zeros for a count past the lane (R243). -/
def leftBy (w c : Nat) (x : BitVec w) : BitVec w := if w - 1 < c then 0#w else BitVec.ofNat w (x.toNat * 2 ^ c)

/-- Right by `c`, unsigned (R249). -/
def rightBy (w c : Nat) (x : BitVec w) : BitVec w := if w - 1 < c then 0#w else BitVec.ofNat w (x.toNat / 2 ^ c)

/-- Right by `c`, signed; a larger count acts as the width less one (R255). -/
def arithBy (w c : Nat) (x : BitVec w) : BitVec w := BitVec.ofInt w (x.toInt / 2 ^ min c (w - 1))

/-- The packed shifts (R243 to R258 and their 128-bit forms). -/
def shifts : List ShiftRow := [
  ⟨.psllwMm, .psllwXmm, 16, leftBy 16⟩, ⟨.pslldMm, .pslldXmm, 32, leftBy 32⟩, ⟨.psllqMm, .psllqXmm, 64, leftBy 64⟩,
  ⟨.psrlwMm, .psrlwXmm, 16, rightBy 16⟩, ⟨.psrldMm, .psrldXmm, 32, rightBy 32⟩, ⟨.psrlqMm, .psrlqXmm, 64, rightBy 64⟩,
  ⟨.psrawMm, .psrawXmm, 16, arithBy 16⟩, ⟨.psradMm, .psradXmm, 32, arithBy 32⟩]

/-- `c` is the count of an MMX shift: all 64 bits of the operand, or the immediate. -/
def MmCount (s : State) (count : Count) (c : Nat) : Prop :=
  match count with
  | .rm rm => ∃ b : Qword, Holds s .checked s.readMm rm b ∧ c = b.toNat
  | .imm v => c = v.toNat

/-- `c` is the count of an XMM shift: bits 63:0 of a 16-byte operand, or the immediate. -/
def XmmCount (s : State) (count : Count) (c : Nat) : Prop :=
  match count with
  | .rm rm => ∃ b : Xmm, Holds s .must16 s.readXmm rm b ∧ c = b.toNat % 2 ^ 64
  | .imm v => c = v.toNat

/-! ## Moves and stores -/

/-- The 16-byte moves and the alignment each asks of memory (R85, R87). -/
def moves16 : List (Ext × Align × (Dir → Reg → RM → Instr)) := [
  (.sse, .must16, .movaps), (.sse, .checked, .movups), (.sse2, .must16, .movapd), (.sse2, .checked, .movupd),
  (.sse2, .must16, .movdqa), (.sse2, .checked, .movdqu)]

/-- A scalar or packed move of `w` bits between an XMM register and memory. -/
structure MoveRow where
  ext   : Ext
  make  : Dir → Reg → RM → Instr
  width : Nat

/-- MOVSS and MOVSD. -/
def scalarMoves : List MoveRow := [⟨.sse, .movss, 32⟩, ⟨.sse2, .movsd, 64⟩]

/-- The half moves, and the quadword of the register each moves: 0 the low one, 1 the high one (R340 to R343). -/
def halfMoves : List (Ext × Nat × (Dir → Reg → MemOp → Instr)) := [
  (.sse, 0, .movlps), (.sse, 1, .movhps), (.sse2, 0, .movlpd), (.sse2, 1, .movhpd)]

/-- A form that stores a register to memory: does it use an MMX register, is it non-temporal, its alignment, its width,
and the value it stores. -/
structure StoreRow where
  make        : Reg → MemOp → Instr
  nonTemporal : Bool
  align       : Align
  width       : Nat
  value       : State → Reg → BitVec width
  touches     : Bool

/-- Every form that stores a register to memory, but the masked stores and FXSAVE (R84). -/
def stores : List StoreRow := [
  ⟨fun r m => .movdMm .store r (.mem m), false, .checked, 32, fun s r => (s.readMm r).extractLsb' 0 32, true⟩,
  ⟨fun r m => .movqMm .store r (.mem m), false, .checked, 64, fun s r => s.readMm r, true⟩,
  ⟨.movntq, true, .checked, 64, fun s r => s.readMm r, true⟩,
  ⟨fun r m => .movaps .store r (.mem m), false, .must16, 128, fun s r => s.readXmm r, false⟩,
  ⟨fun r m => .movups .store r (.mem m), false, .checked, 128, fun s r => s.readXmm r, false⟩,
  ⟨fun r m => .movapd .store r (.mem m), false, .must16, 128, fun s r => s.readXmm r, false⟩,
  ⟨fun r m => .movupd .store r (.mem m), false, .checked, 128, fun s r => s.readXmm r, false⟩,
  ⟨fun r m => .movdqa .store r (.mem m), false, .must16, 128, fun s r => s.readXmm r, false⟩,
  ⟨fun r m => .movdqu .store r (.mem m), false, .checked, 128, fun s r => s.readXmm r, false⟩,
  ⟨.movntps, true, .must16, 128, fun s r => s.readXmm r, false⟩,
  ⟨.movntpd, true, .must16, 128, fun s r => s.readXmm r, false⟩,
  ⟨.movntdq, true, .must16, 128, fun s r => s.readXmm r, false⟩,
  ⟨fun r m => .movss .store r (.mem m), false, .checked, 32, fun s r => (s.readXmm r).extractLsb' 0 32, false⟩,
  ⟨fun r m => .movsd .store r (.mem m), false, .checked, 64, fun s r => (s.readXmm r).extractLsb' 0 64, false⟩,
  ⟨.movlps .store, false, .checked, 64, fun s r => (s.readXmm r).extractLsb' 0 64, false⟩,
  ⟨.movhps .store, false, .checked, 64, fun s r => (s.readXmm r).extractLsb' 64 64, false⟩,
  ⟨.movlpd .store, false, .checked, 64, fun s r => (s.readXmm r).extractLsb' 0 64, false⟩,
  ⟨.movhpd .store, false, .checked, 64, fun s r => (s.readXmm r).extractLsb' 64 64, false⟩,
  ⟨fun r m => .movdXmm .store r (.mem m), false, .checked, 32, fun s r => (s.readXmm r).extractLsb' 0 32, false⟩,
  ⟨fun r m => .movqXmm .store r (.mem m), false, .checked, 64, fun s r => (s.readXmm r).extractLsb' 0 64, false⟩,
  ⟨fun _ m => .stmxcsr m, false, .checked, 32, fun s _ => s.mxcsr, false⟩,
  ⟨.movnti, true, .checked, 32, fun s r => s.readGpr r, false⟩]

/-- The offsets that a mask of `k` bits selects: those whose mask byte has its top bit set (R428, R654). -/
def selected {k : Nat} (mask : BitVec k) : List Nat := (List.range (k / 8)).filter fun j => mask.getLsbD (8 * j + 7)

/-- Only the selected bytes have changed. Each entered the store buffer by itself as a non-temporal store, the lowest first:
logs 22 and 7. -/
structure MaskStored {k : Nat} (s t : State) (a : Nat) (data mask : BitVec k) : Prop where
  rest    : t = { s with sb := t.sb, stored := t.stored }
  written : ∀ j ∈ selected mask, t.byte (a + j) = data.extractLsb' (8 * j) 8
  others  : ∀ x, (∀ j ∈ selected mask, physOf s x ≠ physOf s (a + j)) → t.byte x = s.byte x
  queued  : t.sb = s.sb ++ (selected mask).map fun j => .store true (physOf s (a + j)) [data.extractLsb' (8 * j) 8]

/-- The memory operand of an instruction: where, how many bytes, written or read, its alignment. -/
structure Access where
  m     : MemOp
  bytes : Nat
  write : Bool
  align : Align

/-- The memory operand that an instruction accesses (R84 to R89). None: a form without one, the PREFETCH hints, which
access nothing, and the masked stores, whose operand is not encoded. -/
def access : Instr → Option Access
  | .movdMm .load _ (.mem m) | .punpcklbwMm _ (.mem m) | .punpcklwdMm _ (.mem m) | .punpckldqMm _ (.mem m)
  | .movss .load _ (.mem m) | .addss _ (.mem m) | .subss _ (.mem m) | .mulss _ (.mem m) | .divss _ (.mem m)
  | .maxss _ (.mem m) | .minss _ (.mem m) | .sqrtss _ (.mem m) | .rcpss _ (.mem m) | .rsqrtss _ (.mem m)
  | .cmpss _ (.mem m) _ | .comiss _ (.mem m) | .ucomiss _ (.mem m) | .cvtsi2ss _ (.mem m) | .cvtss2si _ (.mem m)
  | .cvttss2si _ (.mem m) | .ldmxcsr m | .cvtss2sd _ (.mem m) | .cvtsi2sd _ (.mem m) | .movdXmm .load _ (.mem m) => some ⟨m, 4, false, .checked⟩
  | .movdMm .store _ (.mem m) | .movss .store _ (.mem m) | .stmxcsr m | .movdXmm .store _ (.mem m) | .movnti _ m => some ⟨m, 4, true, .checked⟩
  | .movqMm .load _ (.mem m) | .paddbMm _ (.mem m) | .paddwMm _ (.mem m) | .padddMm _ (.mem m)
  | .paddsbMm _ (.mem m) | .paddswMm _ (.mem m) | .paddusbMm _ (.mem m) | .padduswMm _ (.mem m)
  | .psubbMm _ (.mem m) | .psubwMm _ (.mem m) | .psubdMm _ (.mem m) | .psubsbMm _ (.mem m) | .psubswMm _ (.mem m)
  | .psubusbMm _ (.mem m) | .psubuswMm _ (.mem m) | .pmullwMm _ (.mem m) | .pmulhwMm _ (.mem m)
  | .pmaddwdMm _ (.mem m) | .pcmpeqbMm _ (.mem m) | .pcmpeqwMm _ (.mem m) | .pcmpeqdMm _ (.mem m)
  | .pcmpgtbMm _ (.mem m) | .pcmpgtwMm _ (.mem m) | .pcmpgtdMm _ (.mem m) | .packsswbMm _ (.mem m)
  | .packssdwMm _ (.mem m) | .packuswbMm _ (.mem m) | .punpckhbwMm _ (.mem m) | .punpckhwdMm _ (.mem m)
  | .punpckhdqMm _ (.mem m) | .pandMm _ (.mem m) | .pandnMm _ (.mem m) | .porMm _ (.mem m) | .pxorMm _ (.mem m)
  | .psllwMm _ (.rm (.mem m)) | .pslldMm _ (.rm (.mem m)) | .psllqMm _ (.rm (.mem m)) | .psrlwMm _ (.rm (.mem m))
  | .psrldMm _ (.rm (.mem m)) | .psrlqMm _ (.rm (.mem m)) | .psrawMm _ (.rm (.mem m)) | .psradMm _ (.rm (.mem m))
  | .movlps .load _ m | .movhps .load _ m | .cvtpi2ps _ (.mem m) | .cvtps2pi _ (.mem m) | .cvttps2pi _ (.mem m)
  | .pavgbMm _ (.mem m) | .pavgwMm _ (.mem m) | .pmaxswMm _ (.mem m) | .pmaxubMm _ (.mem m) | .pminswMm _ (.mem m)
  | .pminubMm _ (.mem m) | .pmulhuwMm _ (.mem m) | .psadbwMm _ (.mem m) | .pshufw _ (.mem m) _
  | .movsd .load _ (.mem m) | .movlpd .load _ m | .movhpd .load _ m | .addsd _ (.mem m) | .subsd _ (.mem m)
  | .mulsd _ (.mem m) | .divsd _ (.mem m) | .maxsd _ (.mem m) | .minsd _ (.mem m) | .sqrtsd _ (.mem m)
  | .cmpsd _ (.mem m) _ | .comisd _ (.mem m) | .ucomisd _ (.mem m) | .cvtpi2pd _ (.mem m) | .cvtdq2pd _ (.mem m)
  | .cvtps2pd _ (.mem m) | .cvtsd2ss _ (.mem m) | .cvtsd2si _ (.mem m) | .cvttsd2si _ (.mem m)
  | .movqXmm .load _ (.mem m) | .paddqMm _ (.mem m) | .psubqMm _ (.mem m) | .pmuludqMm _ (.mem m) => some ⟨m, 8, false, .checked⟩
  | .movqMm .store _ (.mem m) | .movlps .store _ m | .movhps .store _ m | .movntq _ m | .movsd .store _ (.mem m)
  | .movlpd .store _ m | .movhpd .store _ m | .movqXmm .store _ (.mem m) => some ⟨m, 8, true, .checked⟩
  | .movaps .load _ (.mem m) | .addps _ (.mem m) | .subps _ (.mem m) | .mulps _ (.mem m) | .divps _ (.mem m)
  | .maxps _ (.mem m) | .minps _ (.mem m) | .sqrtps _ (.mem m) | .rcpps _ (.mem m) | .rsqrtps _ (.mem m)
  | .cmpps _ (.mem m) _ | .andps _ (.mem m) | .andnps _ (.mem m) | .orps _ (.mem m) | .xorps _ (.mem m)
  | .shufps _ (.mem m) _ | .unpckhps _ (.mem m) | .unpcklps _ (.mem m) | .movapd .load _ (.mem m)
  | .addpd _ (.mem m) | .subpd _ (.mem m) | .mulpd _ (.mem m) | .divpd _ (.mem m) | .maxpd _ (.mem m)
  | .minpd _ (.mem m) | .sqrtpd _ (.mem m) | .cmppd _ (.mem m) _ | .andpd _ (.mem m) | .andnpd _ (.mem m)
  | .orpd _ (.mem m) | .xorpd _ (.mem m) | .shufpd _ (.mem m) _ | .unpckhpd _ (.mem m) | .unpcklpd _ (.mem m)
  | .cvtpd2pi _ (.mem m) | .cvttpd2pi _ (.mem m) | .cvtpd2dq _ (.mem m) | .cvttpd2dq _ (.mem m)
  | .cvtpd2ps _ (.mem m) | .cvtdq2ps _ (.mem m) | .cvtps2dq _ (.mem m) | .cvttps2dq _ (.mem m)
  | .paddbXmm _ (.mem m) | .paddwXmm _ (.mem m) | .padddXmm _ (.mem m) | .paddsbXmm _ (.mem m)
  | .paddswXmm _ (.mem m) | .paddusbXmm _ (.mem m) | .padduswXmm _ (.mem m) | .psubbXmm _ (.mem m)
  | .psubwXmm _ (.mem m) | .psubdXmm _ (.mem m) | .psubsbXmm _ (.mem m) | .psubswXmm _ (.mem m)
  | .psubusbXmm _ (.mem m) | .psubuswXmm _ (.mem m) | .pmullwXmm _ (.mem m) | .pmulhwXmm _ (.mem m)
  | .pmaddwdXmm _ (.mem m) | .pcmpeqbXmm _ (.mem m) | .pcmpeqwXmm _ (.mem m) | .pcmpeqdXmm _ (.mem m)
  | .pcmpgtbXmm _ (.mem m) | .pcmpgtwXmm _ (.mem m) | .pcmpgtdXmm _ (.mem m) | .packsswbXmm _ (.mem m)
  | .packssdwXmm _ (.mem m) | .packuswbXmm _ (.mem m) | .punpckhbwXmm _ (.mem m) | .punpckhwdXmm _ (.mem m)
  | .punpckhdqXmm _ (.mem m) | .punpcklbwXmm _ (.mem m) | .punpcklwdXmm _ (.mem m) | .punpckldqXmm _ (.mem m)
  | .pandXmm _ (.mem m) | .pandnXmm _ (.mem m) | .porXmm _ (.mem m) | .pxorXmm _ (.mem m)
  | .psllwXmm _ (.rm (.mem m)) | .pslldXmm _ (.rm (.mem m)) | .psllqXmm _ (.rm (.mem m))
  | .psrlwXmm _ (.rm (.mem m)) | .psrldXmm _ (.rm (.mem m)) | .psrlqXmm _ (.rm (.mem m))
  | .psrawXmm _ (.rm (.mem m)) | .psradXmm _ (.rm (.mem m)) | .pavgbXmm _ (.mem m) | .pavgwXmm _ (.mem m)
  | .pmaxswXmm _ (.mem m) | .pmaxubXmm _ (.mem m) | .pminswXmm _ (.mem m) | .pminubXmm _ (.mem m)
  | .pmulhuwXmm _ (.mem m) | .psadbwXmm _ (.mem m) | .movdqa .load _ (.mem m) | .paddqXmm _ (.mem m)
  | .psubqXmm _ (.mem m) | .pmuludqXmm _ (.mem m) | .pshufd _ (.mem m) _ | .pshufhw _ (.mem m) _
  | .pshuflw _ (.mem m) _ | .punpckhqdqXmm _ (.mem m) | .punpcklqdqXmm _ (.mem m) => some ⟨m, 16, false, .must16⟩
  | .movaps .store _ (.mem m) | .movntps _ m | .movapd .store _ (.mem m) | .movdqa .store _ (.mem m) | .movntpd _ m
  | .movntdq _ m => some ⟨m, 16, true, .must16⟩
  | .movups .load _ (.mem m) | .movupd .load _ (.mem m) | .movdqu .load _ (.mem m) => some ⟨m, 16, false, .checked⟩
  | .movups .store _ (.mem m) | .movupd .store _ (.mem m) | .movdqu .store _ (.mem m) => some ⟨m, 16, true, .checked⟩
  | .pinsrwMm _ (.mem m) _ | .pinsrwXmm _ (.mem m) _ => some ⟨m, 2, false, .checked⟩
  | .fxsave m => some ⟨m, 512, true, .must16⟩
  | .fxrstor m => some ⟨m, 512, false, .must16⟩
  | .clflush m => some ⟨m, 1, false, .free⟩
  | _ => none

/-- The bytes that an instruction accesses: at which offsets from `seg:ea`, written or read, and its alignment. -/
structure Touch where
  seg   : Seg
  ea    : Dword
  offs  : List Nat
  write : Bool
  align : Align

/-- All the bytes of its memory operand, or, for a masked store, those its mask selects at `seg:[EDI]` (R84 to R89, R107). -/
def touch (i : Instr) (s : State) : Option Touch :=
  match i with
  | .maskmovq _ rm seg => some ⟨seg, s.readGpr 7, selected (s.readMm rm), true, .free⟩
  | .maskmovdqu _ rm seg => some ⟨seg, s.readGpr 7, selected (s.readXmm rm), true, .free⟩
  | _ => (access i).map fun a => ⟨a.m.seg, s.effAddr a.m, List.range a.bytes, a.write, a.align⟩

/-! ## Fetching (R675 (1), R90, R103, R141) -/

/-- The byte at `eip + k` can be fetched, and is `b`: inside the code segment, in a page that lets it be fetched, write-back
memory, not stored by this run. -/
def Fetchable (s : State) (k : Nat) (b : Byte) : Prop :=
  let a := s.linear .cs s.eip + k
  s.eip.toNat + k < 2 ^ 32 ∧ s.eip.toNat + k ≤ s.segs.cs.limit.toNat ∧ a < 2 ^ 32 ∧ PageOpen s .fetch a ∧ WriteBack s a ∧
    ¬Written s a ∧ b = Memory.read s.mem (physOf s a)

/-- What the fetch of the byte at `eip + k` ends in, where it cannot be fetched: past 2^32 refused (log 32); past the code
segment's limit #GP(0); in a page that forbids it #PF; of another memory type, or stored by this run, refused. -/
def FetchStops (s : State) (k : Nat) (o : Host.Outcome State Fault Refusal) : Prop :=
  let a := s.linear .cs s.eip + k
  let inside := s.eip.toNat + k < 2 ^ 32 ∧ s.eip.toNat + k ≤ s.segs.cs.limit.toNat
  (2 ^ 32 ≤ s.eip.toNat + k ∧ o = .refused .addressWrap) ∨
  (s.eip.toNat + k < 2 ^ 32 ∧ s.segs.cs.limit.toNat < s.eip.toNat + k ∧ o = .next (took s .gp (some 0#32) none)) ∨
  (inside ∧ 2 ^ 32 ≤ a ∧ o = .refused .addressWrap) ∨
  (inside ∧ a < 2 ^ 32 ∧ ∃ p, rangeOf s a = some p ∧ ¬PageOpen s .fetch a ∧
    o = .next (took s .pf (some (pageCode s .fetch p)) (some (BitVec.ofNat 32 a)))) ∨
  (inside ∧ a < 2 ^ 32 ∧ PageOpen s .fetch a ∧ ¬WriteBack s a ∧ o = .refused .otherMemoryType) ∨
  (inside ∧ a < 2 ^ 32 ∧ PageOpen s .fetch a ∧ WriteBack s a ∧ Written s a ∧ o = .refused .fetchOfStoredByte)

/-- The bytes from `eip` on that can be fetched: 15, or fewer, and then the next one cannot. -/
def Window (s : State) (bs : List Byte) : Prop :=
  (∀ k b, bs[k]? = some b → Fetchable s k b) ∧ (bs.length = 15 ∨ (bs.length < 15 ∧ ∃ o, FetchStops s bs.length o))

/-- The refusal of a step whose bytes the decoder refuses. -/
def refusalFor : DecodeRefusal → Refusal
  | .unknownOpcode => .unknownOpcode
  | .mandatoryPrefixMisuse => .mandatoryPrefixMisuse
  | .repeatedPrefix => .repeatedPrefix
  | .laterExtensionForm => .laterExtensionForm
  | .addressSize16 => .addressSize16
  | .reservedHint => .reservedHint
  | .reservedFence => .reservedFence
  | .reservedPredicate => .reservedPredicate

/-! ## Floating point (41_fp_numerics.md) -/

/-- The conditions that `m` lanes detect together (R294). -/
def together (m : Nat) (c : Nat → BitVec 6) : BitVec 6 := (List.range m).foldl (fun d i => d ||| c i) 0#6

/-- A floating-point operation in its packed and its scalar form, with its one-lane function: given MXCSR, the lane of
the destination register and the lane of the source. -/
structure FpRow where
  n      : Nat
  ext    : Ext
  packed : Reg → RM → Instr
  scalar : Reg → RM → Instr
  lanes  : Dword → BitVec n → BitVec n → Lane n

/-- The operations of R279 to R283, R288 and R293 with the instructions each of those rules says it is used by; `p` is the
predicate of the compares. -/
def fpRows (p : Pred) : List FpRow := [
  ⟨32, .sse, .addps, .addss, fadd single⟩, ⟨64, .sse2, .addpd, .addsd, fadd double⟩,
  ⟨32, .sse, .subps, .subss, fsub single⟩, ⟨64, .sse2, .subpd, .subsd, fsub double⟩,
  ⟨32, .sse, .mulps, .mulss, fmul single⟩, ⟨64, .sse2, .mulpd, .mulsd, fmul double⟩,
  ⟨32, .sse, .divps, .divss, fdiv single⟩, ⟨64, .sse2, .divpd, .divsd, fdiv double⟩,
  ⟨32, .sse, .maxps, .maxss, fmax single⟩, ⟨64, .sse2, .maxpd, .maxsd, fmax double⟩,
  ⟨32, .sse, .minps, .minss, fmin single⟩, ⟨64, .sse2, .minpd, .minsd, fmin double⟩,
  ⟨32, .sse, .sqrtps, .sqrtss, fun mx _ b => fsqrt single mx b⟩,
  ⟨64, .sse2, .sqrtpd, .sqrtsd, fun mx _ b => fsqrt double mx b⟩,
  ⟨32, .sse, .rcpps, .rcpss, fun _ _ b => ⟨rcp32 b, 0#6⟩⟩,
  ⟨32, .sse, .rsqrtps, .rsqrtss, fun _ _ b => ⟨rsqrt32 b, 0#6⟩⟩,
  ⟨32, .sse, fun r rm => .cmpps r rm p, fun r rm => .cmpss r rm p, fcmp single p⟩,
  ⟨64, .sse2, fun r rm => .cmppd r rm p, fun r rm => .cmpsd r rm p, fcmp double p⟩]

/-- What an infinite or not finite pattern is not: the biased exponent is not all ones (R270, R271). -/
def IsFinite {n : Nat} (f : Fmt n) (x : BitVec n) : Prop := f.isNan x = false ∧ f.isInf x = false

/-- An operand after the substitution of R272: with DAZ (MXCSR bit 6) a denormal becomes a zero of its sign, all its other
bits zero. -/
def daz {n : Nat} (f : Fmt n) (mx : Dword) (x : BitVec n) : BitVec n :=
  if mx.getLsbD 6 = true ∧ f.isDenormal x = true then x &&& BitVec.ofNat n (2 ^ (n - 1)) else x

/-- The compares that set EFLAGS: format, feature, and whether any NaN is invalid (R289). -/
structure ComiRow where
  n      : Nat
  f      : Fmt n
  ext    : Ext
  make   : Reg → RM → Instr
  anyNan : Bool

/-- COMISS, UCOMISS, COMISD, UCOMISD. -/
def comiRows : List ComiRow := [
  ⟨32, single, .sse, .comiss, true⟩, ⟨32, single, .sse, .ucomiss, false⟩,
  ⟨64, double, .sse2, .comisd, true⟩, ⟨64, double, .sse2, .ucomisd, false⟩]

/-- ZF, PF, CF (bits 6, 2, 0) of a comparison of two numbers, OF, SF, AF (bits 11, 7, 4) cleared, the rest kept (the table of
R289). -/
def comiFlags {n : Nat} (f : Fmt n) (old : Dword) (a b : BitVec n) : Dword :=
  (old &&& 0xFFFFF72A#32) |||
    (if f.isNan a = true ∨ f.isNan b = true then 0x45#32
    else if f.value b < f.value a then 0#32
    else if f.value a < f.value b then 1#32
    else 0x40#32)

/-- The conditions of a comparison: invalid for a signalling NaN, and for any NaN if `anyNan`; else denormal operand, unless
an operand is a NaN (R274, R288, R289). -/
def compareDetects {n : Nat} (f : Fmt n) (anyNan : Bool) (a b : BitVec n) : BitVec 6 :=
  if f.isNan a = true ∨ f.isNan b = true then
    (if anyNan = true ∨ f.isSNan a = true ∨ f.isSNan b = true then 0x01#6 else 0#6)
  else if f.isDenormal a = true ∨ f.isDenormal b = true then 0x02#6 else 0#6

/-- Conversions of `c` lanes of a source of `w` bits, of which the first is lane 0, into an XMM register: `k` lanes of it are
written, the rest become zero. -/
structure CvtRow where
  w     : Nat
  align : Align
  m     : Nat
  n     : Nat
  c     : Nat
  make  : Reg → RM → Instr
  lanes : Dword → BitVec m → Lane n

/-- Float to integer by MXCSR's RC (bits 14:13) (R290). -/
def rounded {m : Nat} (f : Fmt m) (mx : Dword) (x : BitVec m) : Lane 32 := f2i f mx (mx.extractLsb' 13 2) x

/-- Float to integer by truncation (R290). -/
def truncated {m : Nat} (f : Fmt m) (mx : Dword) (x : BitVec m) : Lane 32 := f2i f mx 3#2 x

/-- The packed conversions within the XMM registers (45_sse2_conversion.md). -/
def cvtRows : List CvtRow := [
  ⟨128, .must16, 64, 32, 2, .cvtpd2dq, rounded double⟩, ⟨128, .must16, 64, 32, 2, .cvttpd2dq, truncated double⟩,
  ⟨64, .checked, 32, 64, 2, .cvtdq2pd, i2f double⟩, ⟨64, .checked, 32, 64, 2, .cvtps2pd, s2d⟩,
  ⟨128, .must16, 64, 32, 2, .cvtpd2ps, d2s⟩, ⟨128, .must16, 32, 32, 4, .cvtdq2ps, i2f single⟩,
  ⟨128, .must16, 32, 32, 4, .cvtps2dq, rounded single⟩, ⟨128, .must16, 32, 32, 4, .cvttps2dq, truncated single⟩]

/-- A scalar conversion. -/
structure CvtOne where
  ext   : Ext
  m     : Nat
  n     : Nat
  make  : Reg → RM → Instr
  lanes : Dword → BitVec m → Lane n

/-- From an XMM register or memory to lane 0 of an XMM register. -/
def cvtScalarRows : List CvtOne := [⟨.sse2, 32, 64, .cvtss2sd, s2d⟩, ⟨.sse2, 64, 32, .cvtsd2ss, d2s⟩]

/-- From a general register or memory to lane 0 of an XMM register. -/
def cvtFromGprRows : List CvtOne := [⟨.sse, 32, 32, .cvtsi2ss, i2f single⟩, ⟨.sse2, 32, 64, .cvtsi2sd, i2f double⟩]

/-- From an XMM register or memory to a general register. -/
def cvtToGprRows : List CvtOne := [
  ⟨.sse, 32, 32, .cvtss2si, rounded single⟩, ⟨.sse, 32, 32, .cvttss2si, truncated single⟩,
  ⟨.sse2, 64, 32, .cvtsd2si, rounded double⟩, ⟨.sse2, 64, 32, .cvttsd2si, truncated double⟩]

/-- From an XMM register or memory to the two doublewords of an MMX register. -/
structure CvtMm where
  ext   : Ext
  w     : Nat
  align : Align
  m     : Nat
  make  : Reg → RM → Instr
  lanes : Dword → BitVec m → Lane 32

/-- CVTPS2PI, CVTTPS2PI, CVTPD2PI, CVTTPD2PI. -/
def cvtToMmRows : List CvtMm := [
  ⟨.sse, 64, .checked, 32, .cvtps2pi, rounded single⟩, ⟨.sse, 64, .checked, 32, .cvttps2pi, truncated single⟩,
  ⟨.sse2, 128, .must16, 64, .cvtpd2pi, rounded double⟩, ⟨.sse2, 128, .must16, 64, .cvttpd2pi, truncated double⟩]

/-- An instruction that can detect numeric conditions: its operand, and what it detects (R294). -/
structure Numeric where
  make     : Reg → RM → Instr
  w        : Nat
  operand  : State → RM → BitVec w → Prop
  detected : State → Reg → BitVec w → BitVec 6

/-- Every floating-point instruction, the approximations among them, which detect nothing (R273 to R293); CVTPI2PD, which is
exact, left out. -/
def numeric (p : Pred) : List Numeric :=
  (fpRows p).map (fun r => ⟨r.packed, 128, fun s rm b => Holds s .must16 s.readXmm rm b, fun s reg b =>
      together (128 / r.n) fun i => (r.lanes s.mxcsr (lane r.n i (s.readXmm reg)) (lane r.n i b)).conditions⟩) ++
  (fpRows p).map (fun r => ⟨r.scalar, r.n, fun s rm b => Holds s .checked s.readXmm rm b, fun s reg b =>
      (r.lanes s.mxcsr (lane r.n 0 (s.readXmm reg)) b).conditions⟩) ++
  comiRows.map (fun r => ⟨r.make, r.n, fun s rm b => Holds s .checked s.readXmm rm b, fun s reg b =>
      compareDetects r.f r.anyNan (daz r.f s.mxcsr (lane r.n 0 (s.readXmm reg))) (daz r.f s.mxcsr b)⟩) ++
  cvtRows.map (fun r => ⟨r.make, r.w, fun s rm b => Holds s r.align s.readXmm rm b, fun s _ b =>
      together r.c fun i => (r.lanes s.mxcsr (lane r.m i b)).conditions⟩) ++
  cvtScalarRows.map (fun r => ⟨r.make, r.m, fun s rm b => Holds s .checked s.readXmm rm b, fun s _ b =>
      (r.lanes s.mxcsr b).conditions⟩) ++
  cvtFromGprRows.map (fun r => ⟨r.make, r.m, fun s rm b => Holds s .checked s.readGpr rm b, fun s _ b =>
      (r.lanes s.mxcsr b).conditions⟩) ++
  cvtToGprRows.map (fun r => ⟨r.make, r.m, fun s rm b => Holds s .checked s.readXmm rm b, fun s _ b =>
      (r.lanes s.mxcsr b).conditions⟩) ++
  cvtToMmRows.map (fun r => ⟨r.make, r.w, fun s rm b => Holds s r.align s.readXmm rm b, fun s _ b =>
      together 2 fun i => (r.lanes s.mxcsr (lane r.m i b)).conditions⟩) ++
  [⟨.cvtpi2ps, 64, fun s rm b => Holds s .checked s.readMm rm b, fun s _ b =>
      together 2 fun i => (i2f single s.mxcsr (lane 32 i b)).conditions⟩]

/-- A numeric fault taken (60_exceptions.md rule R674): the conditions' flags set, #XM if `cr4.OSXMMEXCPT` (bit 10) is 1, else
#UD. -/
def numericTook (s : State) (c : BitVec 6) : State :=
  took (flagged s c) (if s.cr4.getLsbD 10 = true then .xm else .ud) none none

/-- `x` is the number of the format to which R273 rounds the quotient `num / den` of units, by `rc`: nearest, a tie to the
even one; down; up; toward zero. -/
def RoundsTo {n : Nat} (f : Fmt n) (rc : BitVec 2) (num den : Int) (x : BitVec n) : Prop :=
  IsFinite f x ∧
  (rc = 0#2 → ∀ y, IsFinite f y →
    |f.value x * den - num| ≤ |f.value y * den - num| ∧
      (|f.value x * den - num| = |f.value y * den - num| → f.value y ≠ f.value x → f.frac x % 2 = 0)) ∧
  (rc = 1#2 → f.value x * den ≤ num ∧ ∀ y, IsFinite f y → f.value y * den ≤ num → f.value y ≤ f.value x) ∧
  (rc = 2#2 → num ≤ f.value x * den ∧ ∀ y, IsFinite f y → num ≤ f.value y * den → f.value x ≤ f.value y) ∧
  (rc = 3#2 → |f.value x| * den ≤ |num| ∧ 0 ≤ f.value x * num ∧
    ∀ y, IsFinite f y → |f.value y| * den ≤ |num| → 0 ≤ f.value y * num → |f.value y| ≤ |f.value x|)

/-- `m` is the whole number to which R290 rounds the quotient `num / den`, `den` positive, by `rc`. -/
def RoundsToInt (rc : BitVec 2) (num den m : Int) : Prop :=
  (rc = 0#2 → 2 * |m * den - num| ≤ den ∧ (2 * |m * den - num| = den → m % 2 = 0)) ∧
  (rc = 1#2 → m * den ≤ num ∧ num < (m + 1) * den) ∧
  (rc = 2#2 → (m - 1) * den < num ∧ num ≤ m * den) ∧
  (rc = 3#2 → m = num.tdiv den)

/-- A zero of a sign. -/
def zeroOf (n : Nat) (neg : Bool) : BitVec n := BitVec.ofNat n (if neg then 2 ^ (n - 1) else 0)

/-- An infinity of a sign (R271). -/
def infinityOf {n : Nat} (f : Fmt n) (neg : Bool) : BitVec n :=
  BitVec.ofNat n ((if neg then 2 ^ (n - 1) else 0) + (2 ^ f.w - 1) * 2 ^ f.t)

/-- The largest finite number of a sign (R270). -/
def largestOf {n : Nat} (f : Fmt n) (neg : Bool) : BitVec n :=
  BitVec.ofNat n ((if neg then 2 ^ (n - 1) else 0) + (2 ^ f.w - 1) * 2 ^ f.t - 1)

/-- The masked response to overflow of a result of a sign (the list of R284). -/
def overflowed {n : Nat} (f : Fmt n) (rc : BitVec 2) (neg : Bool) : BitVec n :=
  if rc = 0#2 then infinityOf f neg
  else if rc = 1#2 then (if neg then infinityOf f neg else largestOf f neg)
  else if rc = 2#2 then (if neg then largestOf f neg else infinityOf f neg)
  else largestOf f neg

/-- The largest finite magnitude, in units (R270). -/
def largest {n : Nat} (f : Fmt n) : Int := (2 ^ (f.t + 1) - 1) * 2 ^ (2 ^ f.w - 3)

/-- The step between the greatest finite numbers, in units. -/
def lastPlace {n : Nat} (f : Fmt n) : Int := 2 ^ (2 ^ f.w - 3)

/-- `rc` rounds a number of the sign of `num` away from zero. -/
def Away (rc : BitVec 2) (num : Int) : Prop := (rc = 1#2 ∧ num < 0) ∨ (rc = 2#2 ∧ 0 < num)

/-- `num / den` units overflow (R284): rounded with unbounded exponent they exceed the largest finite number. To nearest that
is from half a place above it on (its significand is odd), away from zero anything above it, toward zero one place above. -/
def Overflows {n : Nat} (f : Fmt n) (rc : BitVec 2) (num den : Int) : Prop :=
  (rc = 0#2 ∧ (2 * largest f + lastPlace f) * den ≤ 2 * |num|) ∨
  (Away rc num ∧ largest f * den < |num|) ∨
  (rc ≠ 0#2 ∧ ¬Away rc num ∧ (largest f + lastPlace f) * den ≤ |num|)

/-- `num / den` units are tiny (R285): rounded to `t + 1` bits with unbounded exponent they are below the smallest normal number,
`2^t` units. The greatest number of `t + 1` bits below that is half a unit less. -/
def Tiny {n : Nat} (f : Fmt n) (rc : BitVec 2) (num den : Int) : Prop :=
  (rc = 0#2 ∧ 4 * |num| < (2 ^ (f.t + 2) - 1) * den) ∨
  (Away rc num ∧ 2 * |num| ≤ (2 ^ (f.t + 1) - 1) * den) ∨
  (rc ≠ 0#2 ∧ ¬Away rc num ∧ |num| < 2 ^ f.t * den)

/-- `num / den` units need no rounding where the exponent is unbounded above: `t + 1` bits are enough. -/
def Short {n : Nat} (f : Fmt n) (num den : Int) : Prop := ∃ m q : Nat, m < 2 ^ (f.t + 1) ∧ |num| = m * 2 ^ q * den

/-- The result is a flushed zero: tiny, with UM (MXCSR bit 11) and FZ (bit 15) 1 (R285). -/
def Flushes {n : Nat} (f : Fmt n) (mx : Dword) (num den : Int) : Prop :=
  Tiny f (mx.extractLsb' 13 2) num den ∧ mx.getLsbD 11 = true ∧ mx.getLsbD 15 = true

/-- What an operation delivers whose exact result, `num / den` units, is not zero: without overflow and flush, R273's rounding,
its sign that of the exact result; flushed, a zero of that sign; at a masked overflow, R284's response. -/
structure ResultRounds {n : Nat} (f : Fmt n) (mx : Dword) (num den : Int) (r : Lane n) : Prop where
  rounded  : ¬Overflows f (mx.extractLsb' 13 2) num den → ¬Flushes f mx num den →
    RoundsTo f (mx.extractLsb' 13 2) num den r.bits ∧ (r.bits.msb = true ↔ num < 0)
  flushed  : Flushes f mx num den → r.bits = zeroOf n (decide (num < 0))
  overflow : Overflows f (mx.extractLsb' 13 2) num den → mx.getLsbD 10 = true →
    r.bits = overflowed f (mx.extractLsb' 13 2) (decide (num < 0))

/-- All that such an operation detects, beside `d` of its operands: O exactly where it overflows, with P if OM (MXCSR bit 10) is
1 or the unbounded rounding is inexact (R284); U and P where it flushes; else U of a tiny result that is inexact or has UM 0,
and P of an inexact one (R285, R286). -/
structure ResultDetects {n : Nat} (f : Fmt n) (mx : Dword) (num den : Int) (d : BitVec 6) (r : Lane n) : Prop where
  overflow : Overflows f (mx.extractLsb' 13 2) num den →
    (mx.getLsbD 10 = true ∨ ¬Short f num den → r.conditions = d ||| 0x28#6) ∧
    (mx.getLsbD 10 = false → Short f num den → r.conditions = d ||| 0x08#6)
  flushed  : Flushes f mx num den → r.conditions = d ||| 0x30#6
  exact    : ¬Overflows f (mx.extractLsb' 13 2) num den → ¬Flushes f mx num den → f.value r.bits * den = num →
    (Tiny f (mx.extractLsb' 13 2) num den → mx.getLsbD 11 = false → r.conditions = d ||| 0x10#6) ∧
    (¬Tiny f (mx.extractLsb' 13 2) num den ∨ mx.getLsbD 11 = true → r.conditions = d)
  inexact  : ¬Overflows f (mx.extractLsb' 13 2) num den → ¬Flushes f mx num den → f.value r.bits * den ≠ num →
    (Tiny f (mx.extractLsb' 13 2) num den → r.conditions = d ||| 0x30#6) ∧
    (¬Tiny f (mx.extractLsb' 13 2) num den → r.conditions = d ||| 0x20#6)

/-- D, if an operand is denormal after the substitution of R272 (R274, R287). -/
def denormals {n : Nat} (f : Fmt n) (mx : Dword) (a b : BitVec n) : BitVec 6 :=
  if f.isDenormal (daz f mx a) = true ∨ f.isDenormal (daz f mx b) = true then 0x02#6 else 0#6

end Sys2Proof.Spec

open Sys2Proof Sys2Proof.Machine Sys2Proof.Spec

/-! ## Reset, decoding, the step -/

/-- The state after power-up or RESET, and what INIT keeps (R52, R721). The values of `r32[0]` and `r32[2]` are the model's
(log 2) and left out, as are the fields R52 does not name (logs 1, 3, 4). -/
def Obligations.ResetAndInitState : Prop :=
  (State.reset.gpr.toList.eraseIdx 2).drop 1 = List.replicate 6 0#32 ∧
  State.reset.eip = 0x0000FFF0#32 ∧ State.reset.eflags = 2#32 ∧ State.reset.cr0 = 0x60000010#32 ∧
  State.reset.cr4 = 0#32 ∧ State.reset.cpl = 0#2 ∧ State.reset.fpr = Vector.replicate 8 0#80 ∧
  State.reset.ftw = 0x5555#16 ∧ State.reset.fsw = 0#16 ∧ State.reset.xmm = Vector.replicate 8 0#128 ∧
  State.reset.mxcsr = 0x1F80#32 ∧ State.reset.sb = [] ∧
  State.reset.segs.cs.base = 0xFFFF0000#32 ∧ State.reset.segs.cs.limit = 0xFFFF#32 ∧
  (∀ g ∈ [State.reset.segs.es, State.reset.segs.ss, State.reset.segs.ds, State.reset.segs.fs, State.reset.segs.gs],
    g.base = 0#32 ∧ g.limit = 0xFFFF#32) ∧
  ∀ s : State,
    s.init.fpr = s.fpr ∧ s.init.ftw = s.ftw ∧ s.init.fsw = s.fsw ∧ s.init.xmm = s.xmm ∧ s.init.mxcsr = s.mxcsr ∧
    s.init.mem = s.mem ∧ s.init.sb = [] ∧ s.init.eip = State.reset.eip ∧ s.init.eflags = 2#32 ∧ s.init.cr4 = 0#32 ∧
    s.init.cpl = 0#2 ∧ s.init.segs = State.reset.segs ∧ s.init.gpr = State.reset.gpr ∧
    (∀ b, s.init.cr0.getLsbD b = if b = 29 ∨ b = 30 then s.cr0.getLsbD b else State.reset.cr0.getLsbD b)

/-- The invariant holds after reset. -/
def Obligations.InvariantAtReset : Prop := State.reset.Inv

/-- Every step keeps the invariant, from any state: memory canonical and inside the address space, so every pending store,
no store-fence marker first in the buffer, the reserved bits of MXCSR zero. -/
def Obligations.StepKeepsInvariant : Prop := ∀ s t : State, s.Inv → step s = .next t → t.Inv

/-- Decoding an encoded well-formed instruction gives it back with its length, whatever bytes follow, on every processor
that has its feature. -/
def Obligations.DecodeEncode : Prop :=
  ∀ (x : Ext) (i : Instr) (rest : List Byte), i.wellFormed = true → x.has (klass i).2 = true →
    decode x (encode i ++ rest) = .instr i (encode i).length

/-- Words written out from the encodings of 30_encoding.md and the table, one or two of a family, and words that the rules
make undefined or refuse (R131, R134 to R138, R141). -/
def Obligations.DecodedWords : Prop :=
  decode .sse2 [0x0F, 0xFC, 0xCA] = .instr (.paddbMm 1 (.reg 2)) 3 ∧
  decode .sse2 [0x66, 0x0F, 0xFC, 0xCA] = .instr (.paddbXmm 1 (.reg 2)) 4 ∧
  decode .sse2 [0x0F, 0x6E, 0xD8] = .instr (.movdMm .load 3 (.reg 0)) 3 ∧
  decode .sse2 [0x0F, 0x7E, 0xD8] = .instr (.movdMm .store 3 (.reg 0)) 3 ∧
  decode .sse2 [0x0F, 0x71, 0xF1, 0x05] = .instr (.psllwMm 1 (.imm 5)) 4 ∧
  decode .sse2 [0x0F, 0x71, 0xE1, 0x05] = .instr (.psrawMm 1 (.imm 5)) 4 ∧
  decode .sse2 [0x66, 0x0F, 0x73, 0xF9, 0x03] = .instr (.pslldq 1 3) 5 ∧
  decode .sse2 [0x0F, 0x77] = .instr .emms 2 ∧
  decode .sse2 [0xF3, 0x0F, 0x58, 0xC1] = .instr (.addss 0 (.reg 1)) 4 ∧
  decode .sse2 [0xF2, 0x0F, 0x58, 0xC1] = .instr (.addsd 0 (.reg 1)) 4 ∧
  decode .sse2 [0x0F, 0xC2, 0xC1, 0x01] = .instr (.cmpps 0 (.reg 1) 1) 4 ∧
  decode .sse2 [0x0F, 0x12, 0xC1] = .instr (.movhlps 0 1) 3 ∧
  decode .sse2 [0x0F, 0x12, 0x01] = .instr (.movlps .load 0 ⟨.ds, some 1, none, 0, 0⟩) 3 ∧
  decode .sse2 [0x0F, 0x28, 0x44, 0x8D, 0xFC] =
    .instr (.movaps .load 0 (.mem ⟨.ss, some 5, some 1, 2, 0xFFFFFFFC⟩)) 5 ∧
  decode .sse2 [0x64, 0x0F, 0xAE, 0x15, 0x78, 0x56, 0x34, 0x12] = .instr (.ldmxcsr ⟨.fs, none, none, 0, 0x12345678⟩) 8 ∧
  decode .sse2 [0x0F, 0xAE, 0xF8] = .instr .sfence 3 ∧
  decode .sse2 [0xF3, 0x90] = .instr .pause 2 ∧
  decode .mmx [0x67, 0x26, 0xF3, 0x90] = .instr .pause 4 ∧
  decode .sse2 [0xF0, 0xF3, 0x90] = .undefined ∧
  decode .sse2 [0x66, 0xF3, 0x90] = .refused .mandatoryPrefixMisuse ∧
  decode .sse2 [0x90] = .refused .unknownOpcode ∧
  decode .sse2 [0x0F, 0xAE, 0xF9] = .refused .reservedFence ∧
  decode .sse2 [0x0F, 0x18, 0xC0] = .refused .reservedHint ∧
  decode .sse2 [0x0F, 0xC2, 0xC1, 0x08] = .refused .reservedPredicate ∧
  decode .sse2 [0x0F, 0xA2, 0x00] = .refused .unknownOpcode ∧
  decode .sse2 [0xF3, 0x0F, 0xFC, 0xCA] = .refused .mandatoryPrefixMisuse ∧
  decode .sse2 [0x66, 0x66, 0x0F, 0xFC, 0xCA] = .refused .repeatedPrefix ∧
  decode .sse2 [0x26, 0x26, 0x0F, 0x13, 0xC1] = .refused .repeatedPrefix ∧
  decode .mmx [0x26, 0x36, 0x0F, 0x58, 0xC1] = .refused .repeatedPrefix ∧
  decode .sse2 [0x0F, 0x13, 0xC1] = .undefined ∧
  decode .sse [0x66, 0x0F, 0xFC, 0xCA] = .refused .laterExtensionForm ∧
  decode .sse2 [0xF0, 0x0F, 0xFC, 0xCA] = .undefined ∧
  decode .sse2 [0x66, 0x0F, 0x12, 0xC1] = .undefined ∧
  decode .mmx [0x0F, 0x58, 0xC1] = .undefined

/-- What is not decoded: the LOCK byte before any instruction makes it undefined (R138 (a)); on a processor that lacks
the feature of an instruction, its bytes are undefined, or refused as the form of a later extension (R139 (a), (b)). -/
def Obligations.LockedOrLaterIsNotDecoded : Prop :=
  ∀ (x : Ext) (i : Instr) (rest : List Byte), i.wellFormed = true →
    (x.has (klass i).2 = true → decode x (0xF0#8 :: encode i ++ rest) = .undefined) ∧
    (x.has (klass i).2 = false →
      decode x (encode i ++ rest) = .undefined ∨ decode x (encode i ++ rest) = .refused .laterExtensionForm)

/-- One step, by what the bytes that can be fetched at `eip` decode to, on the state in which stores may have drained: an
instruction's meaning, after which `eip` moves past it unless an exception is recorded; #UD; a refusal under its name; where
more bytes are needed than can be fetched, what stops the fetch, or, with 15 of them, #GP(0). -/
def Obligations.StepRunsDecoded : Prop :=
  ∀ s : State, s.raised = none →
    let u := s.drain
    Window u u.fetch.1 ∧
    ∀ bs, Window u bs →
      (∀ i len, decode s.plat.ext bs = .instr i len →
        step s = match exec i u with
          | .next t => .next (if t.raised = none then { t with eip := t.eip + BitVec.ofNat 32 len } else t)
          | .fault f => .fault f
          | .refused r => .refused r) ∧
      (decode s.plat.ext bs = .undefined → step s = .next (took u .ud none none)) ∧
      (∀ why, decode s.plat.ext bs = .refused why → step s = .refused (refusalFor why)) ∧
      (decode s.plat.ext bs = .needMore →
        (bs.length = 15 → step s = .next (took u .gp (some 0#32) none)) ∧
        (bs.length < 15 → ∀ o, FetchStops u bs.length o → step s = o))

/-- The same from the bytes: where the bytes that can be fetched at `eip` begin with the encoding of an instruction whose
feature the processor has, the step runs it. -/
def Obligations.StepRunsEncodedBytes : Prop :=
  ∀ (s : State) (i : Instr), s.raised = none → i.wellFormed = true → s.plat.ext.has (klass i).2 = true →
    (∀ k b, (encode i)[k]? = some b → s.drain.fetchByte k = .ok b) →
    step s = match exec i s.drain with
      | .next t => .next (if t.raised = none then { t with eip := t.eip + BitVec.ofNat 32 (encode i).length } else t)
      | .fault f => .fault f
      | .refused r => .refused r

/-- A completed instruction moves `eip` by its length modulo 2^32 and by nothing else; one that raised an exception leaves
`eip` where it was and records it; an instruction that runs past 2^32 is never run (R142, R31). -/
def Obligations.EipAdvancesByLength : Prop :=
  ∀ (s t : State) (i : Instr) (len : Nat), s.raised = none → decode s.plat.ext s.drain.fetch.1 = .instr i len →
    step s = .next t →
    (t.raised = none → t.eip = BitVec.ofNat 32 (s.eip.toNat + len)) ∧
    (∀ r, t.raised = some r → t.eip = s.eip ∧ r.eip = s.eip) ∧
    s.eip.toNat + len ≤ 0x100000000

/-- What follows a recorded exception: with DELIVER at its default the run ends with it; else the host's delivery changes the
integer core alone, pushes bytes as ordinary stores and clears the record, the x87, MMX and XMM state, MXCSR, CR0, CR2 and CR4
kept; the return goes on at the faulting instruction (R662, R677; the recording and the form of the delivery are log 5's). -/
def Obligations.ExceptionEndsRun : Prop :=
  ∀ (s : State) (e : Exn) (code addr : Option Dword),
    let x := took s e code addr
    (s.plat.deliver = .endRun → step x = .fault (.exception ⟨e, code, s.eip, addr⟩)) ∧
    (s.plat.deliver = .host → ∃ u new, step x = .next u ∧
      u = { x with
        gpr := u.gpr, eip := u.eip, eflags := u.eflags, cpl := u.cpl, segs := u.segs, sb := s.sb ++ new, stored := u.stored,
        raised := none } ∧
      ∀ f ∈ new, ∃ p b, f = .store false p [b]) ∧
    (s.raised = none → returnFromException x = { s with cr2 := addr.getD s.cr2 }) ∧
    [Exn.ud, .nm, .ss, .gp, .pf, .mf, .ac, .xm].map Exn.vector = [6, 7, 12, 13, 14, 16, 17, 19]

/-! ## Exceptions -/

/-- The availability checks of every instruction, in the order of its class (R663 to R671): without the feature, with
`cr0.EM` 1, or, in classes X and XM, with `cr4.OSFXSR` 0: #UD; else with `cr0.TS` 1 (class FX: or `cr0.EM` 1): #NM; else, in
classes M and XM, with `fsw.ES` 1: #MF. -/
def Obligations.AvailabilityExceptions : Prop :=
  ∀ (i : Instr) (s : State),
    let x := (klass i).2
    let ud := Host.Outcome.next (took s .ud none none)
    let nm := Host.Outcome.next (took s .nm none none)
    let mf := Host.Outcome.next (took s .mf none none)
    match (klass i).1 with
    | .m =>
      (s.plat.ext.has x = false ∨ s.cr0.getLsbD 2 = true → exec i s = ud) ∧
      (s.plat.ext.has x = true → s.cr0.getLsbD 2 = false → s.cr0.getLsbD 3 = true → exec i s = nm) ∧
      (s.plat.ext.has x = true → s.cr0.getLsbD 2 = false → s.cr0.getLsbD 3 = false → s.fsw.getLsbD 7 = true →
        exec i s = mf)
    | .x =>
      (s.plat.ext.has x = false ∨ s.cr0.getLsbD 2 = true ∨ s.cr4.getLsbD 9 = false → exec i s = ud) ∧
      (s.plat.ext.has x = true → s.cr0.getLsbD 2 = false → s.cr4.getLsbD 9 = true → s.cr0.getLsbD 3 = true →
        exec i s = nm)
    | .xm =>
      (s.plat.ext.has x = false ∨ s.cr0.getLsbD 2 = true ∨ s.cr4.getLsbD 9 = false → exec i s = ud) ∧
      (s.plat.ext.has x = true → s.cr0.getLsbD 2 = false → s.cr4.getLsbD 9 = true → s.cr0.getLsbD 3 = true →
        exec i s = nm) ∧
      (ReadyX x s → s.fsw.getLsbD 7 = true → exec i s = mf)
    | .fx =>
      (s.plat.ext.has x = false → exec i s = ud) ∧
      (s.plat.ext.has x = true → s.cr0.getLsbD 3 = true ∨ s.cr0.getLsbD 2 = true → exec i s = nm)
    | .h => s.plat.ext.has x = false → exec i s = ud

/-- The checks of every instruction with a memory operand, of the masked stores on the bytes they select, in the order of R83 and
R672: alignment that the instruction requires, #GP(0); the segment, #GP(0) or #SS(0); the lowest byte that paging forbids, #PF
with its code and address in CR2; the alignment check, #AC(0); past 2^32, refused; a memory type without rules, refused. A mask
that selects nothing checks nothing. -/
def Obligations.MemoryExceptionsInOrder : Prop :=
  (∀ (i : Instr) (s : State) (k : Touch), touch i s = some k → Ready i s →
    let la := s.linear k.seg k.ea
    let g := s.segment k.seg
    let misaligned := k.align = .must16 ∧ la % 16 ≠ 0
    let outside := ∃ o ∈ k.offs, rightOf g k.write = false ∨ g.limit.toNat < min (k.ea.toNat + o) 0xFFFFFFFF
    let closed := fun o => ¬ PageOpen s (kindOf k.write) ((la + o) % 2 ^ 32)
    let unaligned := k.align = .checked ∧ AcOn s ∧ la % k.offs.length ≠ 0
    (misaligned → exec i s = .next (took s .gp (some 0#32) none)) ∧
    (¬misaligned → outside → exec i s = .next (took s (if k.seg = .ss then .ss else .gp) (some 0#32) none)) ∧
    (¬misaligned → ¬outside → ∀ o ∈ k.offs, ∀ p, closed o → (∀ o' ∈ k.offs, o' < o → ¬closed o') →
      rangeOf s ((la + o) % 2 ^ 32) = some p →
      exec i s = .next (took s .pf (some (pageCode s (kindOf k.write) p)) (some (BitVec.ofNat 32 (la + o))))) ∧
    (¬misaligned → ¬outside → (∀ o ∈ k.offs, ¬closed o) →
      (unaligned → exec i s = .next (took s .ac (some 0#32) none)) ∧
      (¬unaligned → (∃ o ∈ k.offs, 2 ^ 32 ≤ la + o) → exec i s = .refused .addressWrap) ∧
      (¬unaligned → (∀ o ∈ k.offs, la + o < 2 ^ 32) → (∃ o ∈ k.offs, ¬WriteBack s (la + o)) →
        exec i s = .refused .otherMemoryType))) ∧
  ∀ (reg rm : Reg) (seg : Seg) (s : State),
    (ReadyM .sse s → selected (s.readMm rm) = [] → exec (.maskmovq reg rm seg) s = .next (valid s)) ∧
    (ReadyX .sse2 s → selected (s.readXmm rm) = [] → exec (.maskmovdqu reg rm seg) s = .next s)

/-- An unmasked numeric condition (R294, R674): with one among invalid, denormal operand and divide by zero, those three
kinds of conditions are flagged and nothing else; else, with one among overflow, underflow and precision, all that were
detected are. #XM, or #UD if `cr4.OSXMMEXCPT` is 0; no destination is written. -/
def Obligations.NumericFaults : Prop :=
  ∀ (p : Pred), ∀ r ∈ numeric p, ∀ (reg : Reg) (rm : RM) (s : State) (b : BitVec r.w),
    Ready (r.make reg rm) s → r.operand s rm b →
    let c := r.detected s reg b
    (¬Masked s.mxcsr (c &&& 7#6) → exec (r.make reg rm) s = .next (numericTook s (c &&& 7#6))) ∧
    (Masked s.mxcsr (c &&& 7#6) → ¬Masked s.mxcsr c → exec (r.make reg rm) s = .next (numericTook s c))

/-! ## What no instruction changes -/

/-- An instruction that records an exception changes nothing but the record, CR2 for a page fault, and the flag bits of
MXCSR (R661). -/
def Obligations.ExceptionChangesNothingElse : Prop :=
  ∀ (i : Instr) (s t : State), s.raised = none → exec i s = .next t → ∀ r, t.raised = some r →
    t = { s with raised := some r, cr2 := t.cr2, mxcsr := t.mxcsr } ∧ r.eip = s.eip ∧
    t.mxcsr = s.mxcsr ||| (t.mxcsr &&& 0x3F#32) ∧ (r.exn ≠ .pf → t.cr2 = s.cr2) ∧
    (r.exn = .pf → r.faultAddr = some t.cr2)

/-- No instruction ends in a fault of the model, or writes CR0, CR4, the privilege level, a segment, a parameter of the
platform or, by itself, `eip`; CR2 changes only with a page fault (R42, R43, R45, R46, R679). -/
def Obligations.ControlStateIsNeverWritten : Prop :=
  ∀ (i : Instr) (s : State), (∀ f, exec i s ≠ .fault f) ∧ ∀ t, exec i s = .next t →
    t.cr0 = s.cr0 ∧ t.cr4 = s.cr4 ∧ t.cpl = s.cpl ∧ t.segs = s.segs ∧ t.plat = s.plat ∧ t.eip = s.eip ∧
      (t.cr2 = s.cr2 ∨ ∃ r, t.raised = some r ∧ r.exn = .pf)

/-- Only the four compares write EFLAGS, and of it only the six status flags (R32). -/
def Obligations.EflagsOnlyByCompares : Prop :=
  ∀ (i : Instr) (s t : State), exec i s = .next t →
    match i with
    | .comiss .. | .ucomiss .. | .comisd .. | .ucomisd .. => t.eflags &&& 0xFFFFF72A#32 = s.eflags &&& 0xFFFFF72A#32
    | _ => t.eflags = s.eflags

/-- MXCSR's flags are sticky and its control bits fixed, except for LDMXCSR and FXRSTOR (R40, R294). -/
def Obligations.MxcsrFlagsAreSticky : Prop :=
  ∀ (i : Instr) (s t : State), exec i s = .next t →
    match i with
    | .ldmxcsr _ | .fxrstor _ => True
    | _ => t.mxcsr &&& 0xFFFFFFC0#32 = s.mxcsr &&& 0xFFFFFFC0#32 ∧ t.mxcsr &&& s.mxcsr = s.mxcsr

/-- The MMX register an instruction writes (10_state.md rule R35). -/
def Sys2Proof.Spec.mmDest : Instr → Option Reg
  | .movdMm .load r _ | .movqMm .load r _ | .movqMm .store _ (.reg r) | .pinsrwMm r _ _ | .pshufw r _ _
  | .cvtps2pi r _ | .cvttps2pi r _ | .cvtpd2pi r _ | .cvttpd2pi r _ | .movdq2q r _
  | .paddbMm r _ | .paddwMm r _ | .padddMm r _ | .paddsbMm r _ | .paddswMm r _ | .paddusbMm r _ | .padduswMm r _
  | .psubbMm r _ | .psubwMm r _ | .psubdMm r _ | .psubsbMm r _ | .psubswMm r _ | .psubusbMm r _ | .psubuswMm r _
  | .pmullwMm r _ | .pmulhwMm r _ | .pmaddwdMm r _ | .pcmpeqbMm r _ | .pcmpeqwMm r _ | .pcmpeqdMm r _
  | .pcmpgtbMm r _ | .pcmpgtwMm r _ | .pcmpgtdMm r _ | .packsswbMm r _ | .packssdwMm r _ | .packuswbMm r _
  | .punpckhbwMm r _ | .punpckhwdMm r _ | .punpckhdqMm r _ | .punpcklbwMm r _ | .punpcklwdMm r _ | .punpckldqMm r _
  | .pandMm r _ | .pandnMm r _ | .porMm r _ | .pxorMm r _ | .psllwMm r _ | .pslldMm r _ | .psllqMm r _
  | .psrlwMm r _ | .psrldMm r _ | .psrlqMm r _ | .psrawMm r _ | .psradMm r _ | .pavgbMm r _ | .pavgwMm r _
  | .pmaxswMm r _ | .pmaxubMm r _ | .pminswMm r _ | .pminubMm r _ | .pmulhuwMm r _ | .psadbwMm r _ | .paddqMm r _
  | .psubqMm r _ | .pmuludqMm r _ => some r
  | _ => none

/-- A completed instruction that names an MMX register leaves `top` 0 and every tag valid, and sets bits 79:64 of the register
it writes; EMMS leaves every tag empty, `top` 0, `fpr` unchanged; but for FXRSTOR no other touches the registers, `top` or
the tags, CVTPI2PD with a memory source among them (R35). -/
def Obligations.X87SideEffects : Prop :=
  ∀ (i : Instr) (s t : State), s.raised = none → exec i s = .next t → t.raised = none →
    match i with
    | .fxrstor _ => True
    | .emms => t.fpr = s.fpr ∧ t.ftw = 0xFFFF#16 ∧ t.fsw = s.fsw &&& 0xC7FF#16
    | _ =>
      match (klass i).1 with
      | .m | .xm =>
        t.ftw = 0#16 ∧ t.fsw = s.fsw &&& 0xC7FF#16 ∧
        (∀ r, mmDest i = some r → (t.fpr.get r.toFin).extractLsb' 64 16 = 0xFFFF#16) ∧
        (∀ r : Reg, mmDest i ≠ some r → t.fpr.get r.toFin = s.fpr.get r.toFin)
      | _ => t.fpr = s.fpr ∧ t.ftw = s.ftw ∧ t.fsw = s.fsw

/-- The instructions that write a general register (10_state.md rule R30 (a)). -/
def Sys2Proof.Spec.gprDest : Instr → Option Reg
  | .movdMm .store _ (.reg r) | .movdXmm .store _ (.reg r) | .movmskps r _ | .movmskpd r _ | .pmovmskbMm r _
  | .pmovmskbXmm r _ | .pextrwMm r _ _ | .pextrwXmm r _ _ | .cvtss2si r _ | .cvttss2si r _ | .cvtsd2si r _
  | .cvttsd2si r _ => some r
  | _ => none

/-- The XMM register an instruction writes, by its rule (10_state.md rule R37). -/
def Sys2Proof.Spec.xmmDest : Instr → Option Reg
  | .movaps .load r _ | .movaps .store _ (.reg r) | .movups .load r _ | .movups .store _ (.reg r) | .movss .load r _
  | .movss .store _ (.reg r) | .movlps .load r _ | .movhps .load r _ | .movhlps r _ | .movlhps r _ | .addps r _
  | .addss r _ | .subps r _ | .subss r _ | .mulps r _ | .mulss r _ | .divps r _ | .divss r _ | .maxps r _ | .maxss r _
  | .minps r _ | .minss r _ | .sqrtps r _ | .sqrtss r _ | .rcpps r _ | .rcpss r _ | .rsqrtps r _ | .rsqrtss r _
  | .cmpps r _ _ | .cmpss r _ _ | .cvtpi2ps r _ | .cvtsi2ss r _ | .andps r _ | .andnps r _ | .orps r _ | .xorps r _
  | .shufps r _ _ | .unpckhps r _ | .unpcklps r _ | .movapd .load r _ | .movapd .store _ (.reg r) | .movupd .load r _
  | .movupd .store _ (.reg r) | .movsd .load r _ | .movsd .store _ (.reg r) | .movlpd .load r _ | .movhpd .load r _
  | .addpd r _ | .addsd r _ | .subpd r _ | .subsd r _ | .mulpd r _ | .mulsd r _ | .divpd r _ | .divsd r _ | .maxpd r _
  | .maxsd r _ | .minpd r _ | .minsd r _ | .sqrtpd r _ | .sqrtsd r _ | .cmppd r _ _ | .cmpsd r _ _ | .andpd r _
  | .andnpd r _ | .orpd r _ | .xorpd r _ | .shufpd r _ _ | .unpckhpd r _ | .unpcklpd r _ | .cvtpi2pd r _
  | .cvtpd2dq r _ | .cvttpd2dq r _ | .cvtdq2pd r _ | .cvtps2pd r _ | .cvtpd2ps r _ | .cvtss2sd r _ | .cvtsd2ss r _
  | .cvtsi2sd r _ | .cvtdq2ps r _ | .cvtps2dq r _ | .cvttps2dq r _ | .movdXmm .load r _ | .movqXmm .load r _
  | .movqXmm .store _ (.reg r) | .paddbXmm r _ | .paddwXmm r _ | .padddXmm r _ | .paddsbXmm r _ | .paddswXmm r _
  | .paddusbXmm r _ | .padduswXmm r _ | .psubbXmm r _ | .psubwXmm r _ | .psubdXmm r _ | .psubsbXmm r _
  | .psubswXmm r _ | .psubusbXmm r _ | .psubuswXmm r _ | .pmullwXmm r _ | .pmulhwXmm r _ | .pmaddwdXmm r _
  | .pcmpeqbXmm r _ | .pcmpeqwXmm r _ | .pcmpeqdXmm r _ | .pcmpgtbXmm r _ | .pcmpgtwXmm r _ | .pcmpgtdXmm r _
  | .packsswbXmm r _ | .packssdwXmm r _ | .packuswbXmm r _ | .punpckhbwXmm r _ | .punpckhwdXmm r _ | .punpckhdqXmm r _
  | .punpcklbwXmm r _ | .punpcklwdXmm r _ | .punpckldqXmm r _ | .pandXmm r _ | .pandnXmm r _ | .porXmm r _
  | .pxorXmm r _ | .psllwXmm r _ | .pslldXmm r _ | .psllqXmm r _ | .psrlwXmm r _ | .psrldXmm r _ | .psrlqXmm r _
  | .psrawXmm r _ | .psradXmm r _ | .pavgbXmm r _ | .pavgwXmm r _ | .pinsrwXmm r _ _ | .pmaxswXmm r _ | .pmaxubXmm r _
  | .pminswXmm r _ | .pminubXmm r _ | .pmulhuwXmm r _ | .psadbwXmm r _ | .movdqa .load r _ | .movdqa .store _ (.reg r)
  | .movdqu .load r _ | .movdqu .store _ (.reg r) | .movq2dq r _ | .paddqXmm r _ | .psubqXmm r _ | .pmuludqXmm r _
  | .pshufd r _ _ | .pshufhw r _ _ | .pshuflw r _ _ | .pslldq r _ | .psrldq r _ | .punpckhqdqXmm r _
  | .punpcklqdqXmm r _ => some r
  | _ => none

/-- No instruction writes a register other than its destination: general registers only by the instructions R30 (a) lists; but
for FXRSTOR, XMM registers only as destinations, and the opaque x87 fields never, by FXSAVE neither (R30, R33, R37, R426,
R427). -/
def Obligations.RegisterFilesKept : Prop :=
  ∀ (i : Instr) (s t : State), exec i s = .next t →
    (∀ r : Reg, gprDest i ≠ some r → t.gpr.get r.toFin = s.gpr.get r.toFin) ∧
    match i with
    | .fxrstor _ => True
    | _ =>
      (∀ r : Reg, xmmDest i ≠ some r → t.xmm.get r.toFin = s.xmm.get r.toFin) ∧
      t.fcw = s.fcw ∧ t.fop = s.fop ∧ t.fip = s.fip ∧ t.fcs = s.fcs ∧ t.fdp = s.fdp ∧ t.fds = s.fds

/-- What an instruction does is the same at every privilege level, where paging and the alignment check are off (R45,
R679). -/
def Obligations.PrivilegeDoesNotMatter : Prop :=
  ∀ (i : Instr) (s : State) (c : BitVec 2), s.plat.pages = [] → s.cr0.getLsbD 18 = false →
    exec i { s with cpl := c } =
      match exec i s with
      | .next t => .next { t with cpl := c }
      | .fault f => .fault f
      | .refused r => .refused r

/-! ## The store buffer -/

/-- A store waits in the buffer: no instruction but MFENCE writes shared memory, and but for the two store fences an
instruction only appends pending stores (R96 (a)). The processor reads the newest pending store of a byte, else shared memory
(R96 (b)). -/
def Obligations.StoresWaitInBuffer : Prop :=
  (∀ (i : Instr) (s t : State), exec i s = .next t →
    match i with
    | .mfence => True
    | .sfence => t.mem = s.mem
    | _ => t.mem = s.mem ∧ ∃ new, t.sb = s.sb ++ new ∧ .sf ∉ new) ∧
  ∀ (s : State) (a : Nat),
    (∀ older e newer b, s.sb = older ++ e :: newer → e.byteAt (physOf s a) = some b →
      (∀ f ∈ newer, f.byteAt (physOf s a) = none) → s.byte a = b) ∧
    ((∀ e ∈ s.sb, e.byteAt (physOf s a) = none) → s.byte a = Memory.read s.mem (physOf s a))

/-- Draining changes no byte that the processor itself reads, and nothing else but the model's counter (R96 (b), (c)). -/
def Obligations.DrainIsInvisible : Prop :=
  ∀ s : State, Memory.wf s.mem = true →
    SameBytes s s.drain ∧ s.drain = { s with mem := s.drain.mem, sb := s.drain.sb, oracle := s.drain.oracle }

/-- When an entry may drain, and what draining does (R96 (c), (d)): not past a marker, an entry that shares a byte, or, being
ordinary, an ordinary entry; else its bytes go to memory, it leaves the buffer, and markers then first leave too. -/
def Obligations.DrainRule : Prop :=
  ∀ (s : State) (k : Nat) (e : SbEntry), s.sb[k]? = some e →
    let held := ∃ f ∈ s.sb.take k,
      f = .sf ∨ (∃ x, (f.byteAt x).isSome = true ∧ (e.byteAt x).isSome = true) ∨
        ((∃ a b, f = .store false a b) ∧ ∃ a b, e = .store false a b)
    (held ∨ e = .sf → s.drainAt k = s) ∧
    (∀ nt a bs, e = .store nt a bs → bs ≠ [] → (∀ f ∈ s.sb, ∀ nt' a' bs', f = .store nt' a' bs' → bs' ≠ []) → ¬held →
      s.drainAt k = { s with mem := Memory.writeBytes s.mem a bs, sb := (s.sb.eraseIdx k).dropWhile (· = .sf) })

/-- SFENCE appends a marker, and has no effect with nothing pending; MFENCE completes with an empty buffer, every pending byte
in shared memory. Neither changes a byte that the processor reads, nor anything else (R98, R100, R431, R651). -/
def Obligations.StoreFences : Prop :=
  ∀ s : State,
    (ReadyH .sse s → ∃ t, exec .sfence s = .next t ∧ t = { s with sb := t.sb } ∧ SameBytes s t ∧
      (s.sb = [] → t.sb = []) ∧ (fenceNotFirst s.sb = true → s.sb ≠ [] → t.sb = s.sb ++ [.sf])) ∧
    (ReadyH .sse2 s → Memory.wf s.mem = true → ∃ t, exec .mfence s = .next t ∧ t = { s with sb := [], mem := t.mem } ∧
      SameBytes s t ∧ ∀ a, Memory.read t.mem (physOf s a) = s.byte a)

/-- The PREFETCH hints (whatever their address), LFENCE, PAUSE and, where its byte can be read, CLFLUSH change nothing (R99,
R104, R105, R140). -/
def Obligations.HintsChangeNothing : Prop :=
  ∀ (s : State) (m : MemOp),
    (ReadyH .sse s → ∀ i ∈ [Instr.prefetcht0 m, .prefetcht1 m, .prefetcht2 m, .prefetchnta m], exec i s = .next s) ∧
    (ReadyH .sse2 s → exec .lfence s = .next s) ∧
    exec .pause s = .next s ∧
    (ReadyH .sse2 s → CanRead s .free m 1 → exec (.clflush m) s = .next s)

/-! ## Addresses -/

/-- The linear and the effective address (R82, R125, R126). -/
def Obligations.LinearAddress : Prop :=
  ∀ (s : State) (m : MemOp),
    s.linear m.seg (s.effAddr m) = ((s.segment m.seg).base.toNat + (s.effAddr m).toNat) % 2 ^ 32 ∧
    (s.effAddr m).toNat =
      ((match m.base with | some b => (s.readGpr b).toNat | none => 0) +
        (match m.index with | some i => (s.readGpr i).toNat * 2 ^ m.scale.toNat | none => 0) + m.disp.toNat) % 2 ^ 32 ∧
    ((s.segment m.seg).base = 0#32 → s.linear m.seg (s.effAddr m) = (s.effAddr m).toNat)

/-! ## MMX registers -/

/-- Every two-operand MMX instruction, and PSHUFW: each lane of the result, and nothing else changed but the x87 side effects;
registers and memory sources alike. -/
def Obligations.MmxTwoOperand : Prop :=
  (∀ (imm : Imm8), ∀ r ∈ mmRows imm, ∀ (reg : Reg) (rm : RM) (s : State) (b : Qword),
    ReadyM r.ext s → Holds s .checked s.readMm rm b →
    ∃ t v, exec (r.make reg rm) s = .next t ∧ WroteMm s t reg v ∧
      ∀ i, i < 64 / r.width → lane r.width i v = r.value i (s.readMm reg) b) ∧
  (∀ r ∈ mmLowRows, ∀ (reg : Reg) (rm : RM) (s : State) (b : BitVec 32),
    ReadyM r.ext s → Holds s .checked s.readMm rm b →
    ∃ t v, exec (r.make reg rm) s = .next t ∧ WroteMm s t reg v ∧
      ∀ i, i < 64 / r.width → lane r.width i v = r.value i (s.readMm reg) b)

/-- Every MMX shift, by a register or memory count and by an immediate. -/
def Obligations.MmxShifts : Prop :=
  ∀ r ∈ shifts, ∀ (dst : Reg) (count : Count) (s : State) (c : Nat), ReadyM .mmx s → MmCount s count c →
    ∃ t v, exec (r.mm dst count) s = .next t ∧ WroteMm s t dst v ∧
      ∀ i, i < 64 / r.width → lane r.width i v = r.value c (lane r.width i (s.readMm dst))

/-- PINSRW, PEXTRW, PMOVMSKB on MMX registers (R414, R415, R420); the two that write a general register still leave `top` 0 and
the tags valid. -/
def Obligations.MmxWordsAndMask : Prop :=
  ∀ (s : State), ReadyM .sse s →
    (∀ (reg : Reg) (rm : RM) (imm : Imm8) (x : BitVec 16), Holds s .checked s.readGpr rm x →
      ∃ t v, exec (.pinsrwMm reg rm imm) s = .next t ∧ WroteMm s t reg v ∧
        ∀ i, i < 4 → lane 16 i v = if i = imm.toNat % 4 then x else lane 16 i (s.readMm reg)) ∧
    (∀ (reg rm : Reg) (imm : Imm8), ∃ t, exec (.pextrwMm reg rm imm) s = .next t ∧
      WroteGpr (valid s) t reg (BitVec.ofNat 32 (lane 16 (imm.toNat % 4) (s.readMm rm)).toNat)) ∧
    (∀ reg rm : Reg, ∃ t v, exec (.pmovmskbMm reg rm) s = .next t ∧ WroteGpr (valid s) t reg v ∧
      ∀ i, i < 32 → v.getLsbD i = (decide (i < 8) && (s.readMm rm).getLsbD (8 * i + 7)))

/-- MOVD and MOVQ to and from MMX registers, but the forms that store to memory; MOVDQ2Q and MOVQ2DQ (R203 to R206). -/
def Obligations.MmxMoves : Prop :=
  ∀ s : State,
    (ReadyM .mmx s →
      (∀ (reg : Reg) (rm : RM) (x : Dword), Holds s .checked s.readGpr rm x →
        ∃ t, exec (.movdMm .load reg rm) s = .next t ∧ WroteMm s t reg (0#32 ++ x)) ∧
      (∀ reg r : Reg, ∃ t, exec (.movdMm .store reg (.reg r)) s = .next t ∧
        WroteGpr (valid s) t r ((s.readMm reg).extractLsb' 0 32)) ∧
      (∀ (reg : Reg) (rm : RM) (x : Qword), Holds s .checked s.readMm rm x →
        ∃ t, exec (.movqMm .load reg rm) s = .next t ∧ WroteMm s t reg x) ∧
      (∀ reg r : Reg, ∃ t, exec (.movqMm .store reg (.reg r)) s = .next t ∧ WroteMm s t r (s.readMm reg))) ∧
    (ReadyXM .sse2 s → ∀ reg rm : Reg,
      (∃ t, exec (.movdq2q reg rm) s = .next t ∧ WroteMm s t reg ((s.readXmm rm).extractLsb' 0 64)) ∧
      (∃ t, exec (.movq2dq reg rm) s = .next t ∧ WroteXmm (valid s) t reg (0#64 ++ s.readMm rm)))

/-- EMMS: every tag empty, `top` 0, nothing else (R259). -/
def Obligations.EmmsEmptiesTags : Prop :=
  ∀ s : State, ReadyM .mmx s →
    exec .emms s = .next { s with ftw := 0xFFFF#16, fsw := s.fsw &&& 0xC7FF#16 } ∧
      (s.fsw &&& 0xC7FF#16).extractLsb' 11 3 = 0#3

/-! ## XMM registers -/

/-- Every two-operand XMM instruction that detects no numeric condition and has a 16-byte source: packed integers, unpacks,
logic and shuffles. -/
def Obligations.XmmTwoOperand : Prop :=
  ∀ (imm : Imm8), ∀ r ∈ xmmRows imm, ∀ (reg : Reg) (rm : RM) (s : State) (b : Xmm),
    ReadyX r.ext s → Holds s .must16 s.readXmm rm b →
    ∃ t v, exec (r.make reg rm) s = .next t ∧ WroteXmm s t reg v ∧
      ∀ i, i < 128 / r.width → lane r.width i v = r.value i (s.readXmm reg) b

/-- Every XMM shift by a common count, and the two shifts by bytes (R637, R638). -/
def Obligations.XmmShifts : Prop :=
  (∀ r ∈ shifts, ∀ (dst : Reg) (count : Count) (s : State) (c : Nat), ReadyX .sse2 s → XmmCount s count c →
    ∃ t v, exec (r.xmm dst count) s = .next t ∧ WroteXmm s t dst v ∧
      ∀ i, i < 128 / r.width → lane r.width i v = r.value c (lane r.width i (s.readXmm dst))) ∧
  (∀ (rm : Reg) (imm : Imm8) (s : State), ReadyX .sse2 s →
    (∃ t v, exec (.pslldq rm imm) s = .next t ∧ WroteXmm s t rm v ∧
      ∀ j, j < 16 → lane 8 j v = if imm.toNat ≤ j then lane 8 (j - imm.toNat) (s.readXmm rm) else 0#8) ∧
    (∃ t v, exec (.psrldq rm imm) s = .next t ∧ WroteXmm s t rm v ∧
      ∀ j, j < 16 → lane 8 j v = if j + imm.toNat < 16 then lane 8 (j + imm.toNat) (s.readXmm rm) else 0#8))

/-- PINSRW, PEXTRW, PMOVMSKB on XMM registers, MOVMSKPS and MOVMSKPD. -/
def Obligations.XmmWordsAndMasks : Prop :=
  ∀ s : State,
    (ReadyX .sse2 s →
      (∀ (reg : Reg) (rm : RM) (imm : Imm8) (x : BitVec 16), Holds s .checked s.readGpr rm x →
        ∃ t v, exec (.pinsrwXmm reg rm imm) s = .next t ∧ WroteXmm s t reg v ∧
          ∀ i, i < 8 → lane 16 i v = if i = imm.toNat % 8 then x else lane 16 i (s.readXmm reg)) ∧
      (∀ (reg rm : Reg) (imm : Imm8), ∃ t, exec (.pextrwXmm reg rm imm) s = .next t ∧
        WroteGpr s t reg (BitVec.ofNat 32 (lane 16 (imm.toNat % 8) (s.readXmm rm)).toNat)) ∧
      (∀ reg rm : Reg, ∃ t v, exec (.pmovmskbXmm reg rm) s = .next t ∧ WroteGpr s t reg v ∧
        ∀ i, i < 32 → v.getLsbD i = (decide (i < 16) && (s.readXmm rm).getLsbD (8 * i + 7))) ∧
      (∀ reg rm : Reg, ∃ t v, exec (.movmskpd reg rm) s = .next t ∧ WroteGpr s t reg v ∧
        ∀ i, i < 32 → v.getLsbD i = (decide (i < 2) && (s.readXmm rm).getLsbD (64 * i + 63)))) ∧
    (ReadyX .sse s → ∀ reg rm : Reg, ∃ t v, exec (.movmskps reg rm) s = .next t ∧ WroteGpr s t reg v ∧
      ∀ i, i < 32 → v.getLsbD i = (decide (i < 4) && (s.readXmm rm).getLsbD (32 * i + 31)))

/-- The 16-byte moves, but the forms that store to memory (R334 to R337 and the like). -/
def Obligations.XmmFullMoves : Prop :=
  ∀ r ∈ moves16, ∀ (reg : Reg) (s : State), ReadyX r.1 s →
    (∀ (rm : RM) (b : Xmm), Holds s r.2.1 s.readXmm rm b →
      ∃ t, exec (r.2.2 .load reg rm) s = .next t ∧ WroteXmm s t reg b) ∧
    (∀ q : Reg, ∃ t, exec (r.2.2 .store reg (.reg q)) s = .next t ∧ WroteXmm s t q (s.readXmm reg))

/-- MOVSS and MOVSD, but to memory: between registers the low part alone; from memory with zeros above (R338, R339). -/
def Obligations.XmmScalarMoves : Prop :=
  ∀ r ∈ scalarMoves, ∀ (reg : Reg) (s : State), ReadyX r.ext s →
    (∀ q : Reg, ∃ t v, exec (r.make .load reg (.reg q)) s = .next t ∧ WroteXmm s t reg v ∧
      ∀ j, j < 128 → v.getLsbD j = if j < r.width then (s.readXmm q).getLsbD j else (s.readXmm reg).getLsbD j) ∧
    (∀ (m : MemOp) (b : BitVec r.width), CanRead s .checked m (r.width / 8) → Spells s (place s m) b →
      ∃ t, exec (r.make .load reg (.mem m)) s = .next t ∧ WroteXmm s t reg (b.setWidth 128)) ∧
    (∀ q : Reg, ∃ t v, exec (r.make .store reg (.reg q)) s = .next t ∧ WroteXmm s t q v ∧
      ∀ j, j < 128 → v.getLsbD j = if j < r.width then (s.readXmm reg).getLsbD j else (s.readXmm q).getLsbD j)

/-- The loads of one quadword of a register, MOVHLPS and MOVLHPS: the other quadword is kept (R340, R342, R344, R345). -/
def Obligations.XmmHalfMoves : Prop :=
  (∀ r ∈ halfMoves, ∀ (reg : Reg) (m : MemOp) (s : State) (b : Qword), ReadyX r.1 s → CanRead s .checked m 8 →
    Spells s (place s m) b →
    ∃ t v, exec (r.2.2 .load reg m) s = .next t ∧ WroteXmm s t reg v ∧
      ∀ h, h < 2 → lane 64 h v = if h = r.2.1 then b else lane 64 h (s.readXmm reg)) ∧
  (∀ (reg rm : Reg) (s : State), ReadyX .sse s →
    (∃ t, exec (.movhlps reg rm) s = .next t ∧
      WroteXmm s t reg ((s.readXmm reg).extractLsb' 64 64 ++ (s.readXmm rm).extractLsb' 64 64)) ∧
    (∃ t, exec (.movlhps reg rm) s = .next t ∧
      WroteXmm s t reg ((s.readXmm rm).extractLsb' 0 64 ++ (s.readXmm reg).extractLsb' 0 64)))

/-- MOVD and MOVQ with XMM registers, but to memory: the rest of an XMM destination becomes zero. -/
def Obligations.XmmLowMoves : Prop :=
  ∀ (reg : Reg) (s : State), ReadyX .sse2 s →
    (∀ (rm : RM) (x : Dword), Holds s .checked s.readGpr rm x →
      ∃ t, exec (.movdXmm .load reg rm) s = .next t ∧ WroteXmm s t reg (x.setWidth 128)) ∧
    (∀ r : Reg, ∃ t, exec (.movdXmm .store reg (.reg r)) s = .next t ∧
      WroteGpr s t r ((s.readXmm reg).extractLsb' 0 32)) ∧
    (∀ (rm : RM) (x : Qword), Holds s .checked s.readXmm rm x →
      ∃ t, exec (.movqXmm .load reg rm) s = .next t ∧ WroteXmm s t reg (x.setWidth 128)) ∧
    (∀ r : Reg, ∃ t, exec (.movqXmm .store reg (.reg r)) s = .next t ∧
      WroteXmm s t r (((s.readXmm reg).extractLsb' 0 64).setWidth 128))

/-! ## Memory -/

/-- Every form that stores a register to memory: the bytes at its operand's address become the value's, no byte elsewhere
changes, nothing else changes but the x87 side effects of a form that names an MMX register. An aligned 16-byte store enters
the buffer as two halves, the low one first: that order is the model's choice, log 7. -/
def Obligations.RegisterStores : Prop :=
  ∀ r ∈ stores, ∀ (reg : Reg) (m : MemOp) (s : State), Ready (r.make reg m) s → CanWrite s r.align m (r.width / 8) →
    ∃ t, exec (r.make reg m) s = .next t ∧
      Stored (if r.touches then valid s else s) t r.nonTemporal (place s m) (r.value s reg)

/-- MASKMOVQ and MASKMOVDQU store the bytes their mask selects at `seg:[EDI]`, and check and change no other (R107, R428,
R654). That each byte is an entry of its own, the lowest first, is the model's choice, logs 22 and 7. -/
def Obligations.MaskedStoresWriteSelectedBytes : Prop :=
  ∀ (reg rm : Reg) (seg : Seg) (s : State),
    (ReadyM .sse s → Reach s true .free seg (s.readGpr 7) (selected (s.readMm rm)) →
      ∃ t, exec (.maskmovq reg rm seg) s = .next t ∧
        MaskStored (valid s) t (s.linear seg (s.readGpr 7)) (s.readMm reg) (s.readMm rm)) ∧
    (ReadyX .sse2 s → Reach s true .free seg (s.readGpr 7) (selected (s.readXmm rm)) →
      ∃ t, exec (.maskmovdqu reg rm seg) s = .next t ∧
        MaskStored s t (s.linear seg (s.readGpr 7)) (s.readXmm reg) (s.readXmm rm))

/-- LDMXCSR of a value without reserved bits loads it and changes nothing else; of a value with a 1 in a reserved bit it raises
#GP(0) and changes nothing, and so does FXRSTOR with `cr4.OSFXSR` 1. Without DAZ bit 6 is reserved too (R41, R424, R427). -/
def Obligations.MxcsrLoadChecksReservedBits : Prop :=
  ∀ (m : MemOp) (s : State) (v : Dword),
    let reserved := v &&& ~~~(if s.plat.daz then 0xFFFF#32 else 0xFFBF#32)
    (ReadyX .sse s → CanRead s .checked m 4 → Spells s (place s m) v →
      (reserved = 0#32 → exec (.ldmxcsr m) s = .next { s with mxcsr := v }) ∧
      (reserved ≠ 0#32 → exec (.ldmxcsr m) s = .next (took s .gp (some 0#32) none))) ∧
    (ReadyFX .sse s → s.cr4.getLsbD 9 = true → CanRead s .must16 m 512 → Spells s (place s m + 24) v →
      reserved ≠ 0#32 → exec (.fxrstor m) s = .next (took s .gp (some 0#32) none))

/-- FXSAVE's image, field by field, in stack order from `top` (R426): the XMM part only with `cr4.OSFXSR`, bytes 464 and above
never, no byte outside; nothing else changes but the model's counter. The reserved bytes are left open. -/
def Obligations.FxsaveImage : Prop :=
  ∀ (m : MemOp) (s : State), ReadyFX .sse s → CanWrite s .must16 m 512 →
    let a := place s m
    ∃ t, exec (.fxsave m) s = .next t ∧ t = { s with sb := t.sb, stored := t.stored, oracle := t.oracle } ∧
      Spells t a s.fcw ∧ Spells t (a + 2) s.fsw ∧
      (∀ i, i < 8 → (t.byte (a + 4)).getLsbD i = decide (s.ftw.extractLsb' (2 * i) 2 ≠ 3#2)) ∧
      Spells t (a + 6) (0#5 ++ s.fop) ∧ Spells t (a + 8) s.fip ∧ Spells t (a + 12) s.fcs ∧ Spells t (a + 16) s.fdp ∧
      Spells t (a + 20) s.fds ∧
      (∀ j, j < 8 → Spells t (a + 32 + 16 * j) (s.readFpr (BitVec.ofNat 3 ((s.fsw.extractLsb' 11 3).toNat + j)))) ∧
      (s.cr4.getLsbD 9 = true →
        Spells t (a + 24) s.mxcsr ∧ Spells t (a + 28) (if s.plat.daz then 0xFFFF#32 else 0xFFBF#32) ∧
        ∀ j, j < 8 → Spells t (a + 160 + 16 * j) (s.readXmm (BitVec.ofNat 3 j))) ∧
      (s.cr4.getLsbD 9 = false → ∀ o, (24 ≤ o ∧ o < 32) ∨ (160 ≤ o ∧ o < 288) → t.byte (a + o) = s.byte (a + o)) ∧
      (∀ o, 464 ≤ o → o < 512 → t.byte (a + o) = s.byte (a + o)) ∧
      (∀ x, (∀ o, o < 464 → physOf s x ≠ physOf s (a + o)) → t.byte x = s.byte x) ∧
      ∃ new, t.sb = s.sb ++ new ∧ ∀ e ∈ new, ∃ p bs, e = .store false p bs

/-- The tag that FXRSTOR gives a register's content (R427). -/
def Sys2Proof.Spec.tagFor (x : Fpr) : BitVec 2 :=
  let e := (x.toNat / 2 ^ 64) % 2 ^ 15
  if e = 0 ∧ x.toNat % 2 ^ 64 = 0 then 1#2
  else if e = 0x7FFF ∨ e = 0 ∨ x.getLsbD 63 = false then 2#2
  else 0#2

/-- FXRSTOR loads the image's fields, the registers by the image's own `top`, the tags anew; the XMM registers and MXCSR only
with `cr4.OSFXSR`, the MXCSR then without reserved bits; nothing else changes (R427). -/
def Obligations.FxrstorLoads : Prop :=
  ∀ (m : MemOp) (s : State) (v : Dword) (abridged : Byte) (opcode : BitVec 16), ReadyFX .sse s → CanRead s .must16 m 512 →
    let a := place s m
    Spells s (a + 24) v → Spells s (a + 4) abridged → Spells s (a + 6) opcode →
    (s.cr4.getLsbD 9 = true → v &&& ~~~(if s.plat.daz then 0xFFFF#32 else 0xFFBF#32) = 0#32) →
    ∃ t, exec (.fxrstor m) s = .next t ∧
      t = { s with
        fcw := t.fcw, fsw := t.fsw, ftw := t.ftw, fop := opcode.extractLsb' 0 11, fip := t.fip, fcs := t.fcs, fdp := t.fdp,
        fds := t.fds, fpr := t.fpr, mxcsr := if s.cr4.getLsbD 9 then v else s.mxcsr,
        xmm := if s.cr4.getLsbD 9 then t.xmm else s.xmm } ∧
      SameBytes s t ∧ Spells s a t.fcw ∧ Spells s (a + 2) t.fsw ∧ Spells s (a + 8) t.fip ∧ Spells s (a + 12) t.fcs ∧
      Spells s (a + 16) t.fdp ∧ Spells s (a + 20) t.fds ∧
      (∀ j, j < 8 → Spells s (a + 32 + 16 * j) (t.readFpr (BitVec.ofNat 3 ((t.fsw.extractLsb' 11 3).toNat + j)))) ∧
      (∀ i, i < 8 → t.ftw.extractLsb' (2 * i) 2 =
        if abridged.getLsbD i then Spec.tagFor (t.readFpr (BitVec.ofNat 3 i)) else 3#2) ∧
      (s.cr4.getLsbD 9 = true → ∀ j, j < 8 → Spells s (a + 160 + 16 * j) (t.readXmm (BitVec.ofNat 3 j)))

/-- FXRSTOR of the image that FXSAVE wrote brings every register back, a tag as empty or not empty (R427). -/
def Obligations.FxsaveFxrstorRoundTrip : Prop :=
  ∀ (m : MemOp) (s : State), ReadyFX .sse s → CanWrite s .must16 m 512 → CanRead s .must16 m 512 →
    s.mxcsr &&& ~~~(if s.plat.daz then 0xFFFF#32 else 0xFFBF#32) = 0#32 →
    ∃ t u, exec (.fxsave m) s = .next t ∧ exec (.fxrstor m) t = .next u ∧
      u.fpr = s.fpr ∧ u.fcw = s.fcw ∧ u.fsw = s.fsw ∧ u.fop = s.fop ∧ u.fip = s.fip ∧ u.fcs = s.fcs ∧ u.fdp = s.fdp ∧
      u.fds = s.fds ∧ u.xmm = s.xmm ∧ u.mxcsr = s.mxcsr ∧
      ∀ i, i < 8 → (u.ftw.extractLsb' (2 * i) 2 = 3#2 ↔ s.ftw.extractLsb' (2 * i) 2 = 3#2)

/-! ## Floating point: what an instruction commits -/

/-- Every packed floating-point instruction whose conditions are masked: each lane its operation's result, the conditions of
all lanes flagged, nothing else changed (R294). -/
def Obligations.FpPackedResults : Prop :=
  ∀ (p : Pred), ∀ r ∈ fpRows p, ∀ (reg : Reg) (rm : RM) (s : State) (b : Xmm),
    ReadyX r.ext s → Holds s .must16 s.readXmm rm b →
    let f := fun i => r.lanes s.mxcsr (lane r.n i (s.readXmm reg)) (lane r.n i b)
    let c := together (128 / r.n) fun i => (f i).conditions
    Masked s.mxcsr c →
    ∃ t v, exec (r.packed reg rm) s = .next t ∧ WroteXmm (flagged s c) t reg v ∧
      ∀ i, i < 128 / r.n → lane r.n i v = (f i).bits

/-- Every scalar floating-point instruction whose conditions are masked: lane 0 alone (R294). -/
def Obligations.FpScalarResults : Prop :=
  ∀ (p : Pred), ∀ r ∈ fpRows p, ∀ (reg : Reg) (rm : RM) (s : State) (b : BitVec r.n),
    ReadyX r.ext s → Holds s .checked s.readXmm rm b →
    let f := r.lanes s.mxcsr (lane r.n 0 (s.readXmm reg)) b
    Masked s.mxcsr f.conditions →
    ∃ t v, exec (r.scalar reg rm) s = .next t ∧ WroteXmm (flagged s f.conditions) t reg v ∧
      lane r.n 0 v = f.bits ∧ ∀ j, r.n ≤ j → j < 128 → v.getLsbD j = (s.readXmm reg).getLsbD j

/-- COMISS, UCOMISS, COMISD, UCOMISD whose conditions are masked: ZF, PF, CF by the relation, OF, SF, AF 0, the conditions
flagged, nothing else changed (R289). -/
def Obligations.CompareSetsEflags : Prop :=
  ∀ r ∈ comiRows, ∀ (reg : Reg) (rm : RM) (s : State) (b : BitVec r.n),
    ReadyX r.ext s → Holds s .checked s.readXmm rm b →
    let x := daz r.f s.mxcsr (lane r.n 0 (s.readXmm reg))
    let y := daz r.f s.mxcsr b
    let c := compareDetects r.f r.anyNan x y
    Masked s.mxcsr c →
    ∃ t, exec (r.make reg rm) s = .next t ∧ t = { flagged s c with eflags := comiFlags r.f s.eflags x y } ∧ SameBytes s t

/-- The conversions within the XMM registers whose conditions are masked: the converted lanes, zeros above for a packed one,
the other bits kept for a scalar one, and from a general register or memory. -/
def Obligations.ConversionsToXmm : Prop :=
  (∀ r ∈ cvtRows, ∀ (reg : Reg) (rm : RM) (s : State) (b : BitVec r.w),
    ReadyX .sse2 s → Holds s r.align s.readXmm rm b →
    let c := together r.c fun i => (r.lanes s.mxcsr (lane r.m i b)).conditions
    Masked s.mxcsr c →
    ∃ t v, exec (r.make reg rm) s = .next t ∧ WroteXmm (flagged s c) t reg v ∧
      ∀ i, i < 128 / r.n → lane r.n i v = if i < r.c then (r.lanes s.mxcsr (lane r.m i b)).bits else 0) ∧
  (∀ r ∈ cvtScalarRows, ∀ (reg : Reg) (rm : RM) (s : State) (b : BitVec r.m),
    ReadyX r.ext s → Holds s .checked s.readXmm rm b →
    let f := r.lanes s.mxcsr b
    Masked s.mxcsr f.conditions →
    ∃ t v, exec (r.make reg rm) s = .next t ∧ WroteXmm (flagged s f.conditions) t reg v ∧
      lane r.n 0 v = f.bits ∧ ∀ j, r.n ≤ j → j < 128 → v.getLsbD j = (s.readXmm reg).getLsbD j) ∧
  (∀ r ∈ cvtFromGprRows, ∀ (reg : Reg) (rm : RM) (s : State) (b : BitVec r.m),
    ReadyX r.ext s → Holds s .checked s.readGpr rm b →
    let f := r.lanes s.mxcsr b
    Masked s.mxcsr f.conditions →
    ∃ t v, exec (r.make reg rm) s = .next t ∧ WroteXmm (flagged s f.conditions) t reg v ∧
      lane r.n 0 v = f.bits ∧ ∀ j, r.n ≤ j → j < 128 → v.getLsbD j = (s.readXmm reg).getLsbD j)

/-- The conversions to a general register whose conditions are masked. -/
def Obligations.ConversionsToGpr : Prop :=
  ∀ r ∈ cvtToGprRows, ∀ (reg : Reg) (rm : RM) (s : State) (b : BitVec r.m),
    ReadyX r.ext s → Holds s .checked s.readXmm rm b →
    let f := r.lanes s.mxcsr b
    Masked s.mxcsr f.conditions →
    ∃ t v, exec (r.make reg rm) s = .next t ∧ WroteGpr (flagged s f.conditions) t reg v ∧
      v.toNat = f.bits.toNat

/-- The conversions to and from MMX registers whose conditions are masked: CVTPI2PD with a memory source alone has no x87 side
effect (R369, R504). -/
def Obligations.ConversionsWithMmx : Prop :=
  (∀ r ∈ cvtToMmRows, ∀ (reg : Reg) (rm : RM) (s : State) (b : BitVec r.w),
    ReadyXM r.ext s → Holds s r.align s.readXmm rm b →
    let c := together 2 fun i => (r.lanes s.mxcsr (lane r.m i b)).conditions
    Masked s.mxcsr c →
    ∃ t v, exec (r.make reg rm) s = .next t ∧ WroteMm (flagged s c) t reg v ∧
      ∀ i, i < 2 → lane 32 i v = (r.lanes s.mxcsr (lane r.m i b)).bits) ∧
  (∀ (reg : Reg) (rm : RM) (s : State) (b : Qword), ReadyXM .sse s → Holds s .checked s.readMm rm b →
    let c := together 2 fun i => (i2f single s.mxcsr (lane 32 i b)).conditions
    Masked s.mxcsr c →
    ∃ t v, exec (.cvtpi2ps reg rm) s = .next t ∧ WroteXmm (valid (flagged s c)) t reg v ∧
      ∀ i, i < 4 → lane 32 i v = if i < 2 then (i2f single s.mxcsr (lane 32 i b)).bits else lane 32 i (s.readXmm reg)) ∧
  (∀ (reg : Reg) (rm : RM) (s : State) (b : Qword), Ready (.cvtpi2pd reg rm) s → Holds s .checked s.readMm rm b →
    ∃ t v, exec (.cvtpi2pd reg rm) s = .next t ∧
      WroteXmm (match rm with | .reg _ => valid s | .mem _ => s) t reg v ∧
      ∀ i, i < 2 → lane 64 i v = (i2f double s.mxcsr (lane 32 i b)).bits)

/-! ## Floating point: one lane (each statement for both formats) -/

/-- A NaN operand: the first one, its quiet bit set; invalid exactly if one is signalling (R275); square root (R276). -/
def Sys2Proof.Spec.NanRule {n : Nat} (f : Fmt n) : Prop :=
  ∀ (mx : Dword) (a b : BitVec n),
    let invalid := if f.isSNan a = true ∨ f.isSNan b = true then 0x01#6 else 0#6
    (∀ op ∈ [fadd f, fsub f, fmul f, fdiv f],
      (f.isNan a = true → op mx a b = ⟨a ||| BitVec.ofNat n (2 ^ (f.t - 1)), invalid⟩) ∧
      (f.isNan a = false → f.isNan b = true → op mx a b = ⟨b ||| BitVec.ofNat n (2 ^ (f.t - 1)), invalid⟩)) ∧
    (f.isNan a = true →
      fsqrt f mx a = ⟨a ||| BitVec.ofNat n (2 ^ (f.t - 1)), if f.isSNan a = true then 0x01#6 else 0#6⟩)

def Obligations.NanOperandIsQuieted : Prop := NanRule single ∧ NanRule double

/-- An invalid operation without a NaN operand gives the indefinite, and divide by zero an infinity (R277, R279 to R282): the
operands after the substitution of R272. -/
def Sys2Proof.Spec.InvalidRule {n : Nat} (f : Fmt n) (indefinite : BitVec n) : Prop :=
  ∀ (mx : Dword) (a b : BitVec n),
    let a' := daz f mx a
    let b' := daz f mx b
    (f.isInf a = true → f.isInf b = true → a.msb ≠ b.msb → fadd f mx a b = ⟨indefinite, 0x01#6⟩) ∧
    (f.isInf a = true → f.isInf b = true → a.msb = b.msb → fsub f mx a b = ⟨indefinite, 0x01#6⟩) ∧
    (f.isZero a' = true ∧ f.isInf b = true ∨ f.isInf a = true ∧ f.isZero b' = true →
      fmul f mx a b = ⟨indefinite, 0x01#6⟩) ∧
    (f.isZero a' = true ∧ f.isZero b' = true ∨ f.isInf a = true ∧ f.isInf b = true →
      fdiv f mx a b = ⟨indefinite, 0x01#6⟩) ∧
    (IsFinite f a → f.isZero a' = false → f.isZero b' = true →
      (fdiv f mx a b).conditions = 0x04#6 ∧ f.isInf (fdiv f mx a b).bits = true ∧
        (fdiv f mx a b).bits.msb = (a.msb != b.msb)) ∧
    (f.isNan a = false → f.isZero a' = false → a.msb = true → fsqrt f mx a = ⟨indefinite, 0x01#6⟩) ∧
    (∀ op ∈ [fadd f, fsub f, fmul f, fdiv f], f.isNan a = false → f.isNan b = false →
      (op mx a b).conditions.getLsbD 0 = true → (op mx a b).bits = indefinite) ∧
    (f.isNan a = false → (fsqrt f mx a).conditions.getLsbD 0 = true → (fsqrt f mx a).bits = indefinite) ∧
    (∀ rc, (f2i f mx rc a).conditions.getLsbD 0 = true → (f2i f mx rc a).bits = 0x80000000#32)

def Obligations.InvalidOperationGivesIndefinite : Prop :=
  InvalidRule single 0xFFC00000#32 ∧ InvalidRule double 0xFFF8000000000000#64

/-- MIN and MAX (R283): a NaN or two zeros give the second operand; else the smaller, or the greater, the second if equal. The
operands after the substitution of R272; a denormal operand is detected where no operand is a NaN (R274). -/
def Sys2Proof.Spec.MinMaxRule {n : Nat} (f : Fmt n) : Prop :=
  ∀ (mx : Dword) (a b : BitVec n),
    let a' := daz f mx a
    let b' := daz f mx b
    let d := if f.isDenormal a' = true ∨ f.isDenormal b' = true then 0x02#6 else 0#6
    (f.isNan a = true ∨ f.isNan b = true → fmin f mx a b = ⟨b', 0x01#6⟩ ∧ fmax f mx a b = ⟨b', 0x01#6⟩) ∧
    (f.isNan a = false → f.isNan b = false →
      fmin f mx a b = ⟨if f.value a' < f.value b' then a' else b', d⟩ ∧
      fmax f mx a b = ⟨if f.value b' < f.value a' then a' else b', d⟩)

def Obligations.MinMaxPickOneOperand : Prop := MinMaxRule single ∧ MinMaxRule double

/-- The eight predicates and what they detect (the table of R288). -/
def Sys2Proof.Spec.CompareRule {n : Nat} (f : Fmt n) : Prop :=
  ∀ (mx : Dword) (p : Pred) (a b : BitVec n),
    let x := daz f mx a
    let y := daz f mx b
    let unordered := f.isNan a = true ∨ f.isNan b = true
    let eq := ¬unordered ∧ f.value x = f.value y
    let lt := ¬unordered ∧ f.value x < f.value y
    let le := ¬unordered ∧ f.value x ≤ f.value y
    let holds := (p = 0#3 ∧ eq) ∨ (p = 1#3 ∧ lt) ∨ (p = 2#3 ∧ le) ∨ (p = 3#3 ∧ unordered) ∨ (p = 4#3 ∧ ¬eq) ∨
      (p = 5#3 ∧ ¬lt) ∨ (p = 6#3 ∧ ¬le) ∨ (p = 7#3 ∧ ¬unordered)
    (holds → (fcmp f p mx a b).bits = BitVec.allOnes n) ∧ (¬holds → (fcmp f p mx a b).bits = 0#n) ∧
      (fcmp f p mx a b).conditions = compareDetects f (p ∈ [1#3, 2#3, 5#3, 6#3]) x y

def Obligations.ComparePredicates : Prop := CompareRule single ∧ CompareRule double

/-- Addition, subtraction, multiplication, division of finite operands after the substitution of R272, at every setting of
MXCSR: what a result that is not zero becomes. -/
def Sys2Proof.Spec.ArithmeticRounds {n : Nat} (f : Fmt n) : Prop :=
  ∀ (mx : Dword) (a b : BitVec n), IsFinite f a → IsFinite f b →
    let x := f.value (daz f mx a)
    let y := f.value (daz f mx b)
    (x + y ≠ 0 → ResultRounds f mx (x + y) 1 (fadd f mx a b)) ∧
    (x - y ≠ 0 → ResultRounds f mx (x - y) 1 (fsub f mx a b)) ∧
    (x * y ≠ 0 → ResultRounds f mx (x * y) (2 ^ f.scale) (fmul f mx a b)) ∧
    (x ≠ 0 → y ≠ 0 → ResultRounds f mx (x * 2 ^ f.scale * y.sign) |y| (fdiv f mx a b))

/-- The results that need no rounding (R279 to R281): an exact zero, its sign by RC and the operands, and the results of an
infinite operand; nothing is detected but a denormal operand. -/
def Sys2Proof.Spec.ExactResults {n : Nat} (f : Fmt n) : Prop :=
  ∀ (mx : Dword) (a b : BitVec n), f.isNan a = false → f.isNan b = false →
    let a' := daz f mx a
    let b' := daz f mx b
    let d := denormals f mx a b
    let down := decide (mx.extractLsb' 13 2 = 1#2)
    let neg := a.msb != b.msb
    (f.isInf a = true → (f.isInf b = true → a.msb = b.msb) → fadd f mx a b = ⟨a, d⟩) ∧
    (f.isInf a = false → f.isInf b = true → fadd f mx a b = ⟨b, d⟩) ∧
    (IsFinite f a → IsFinite f b → f.value a' + f.value b' = 0 →
      fadd f mx a b = ⟨if f.isZero a' = true ∧ a.msb = b.msb then a' else zeroOf n down, d⟩) ∧
    (f.isInf a = true → (f.isInf b = true → a.msb ≠ b.msb) → fsub f mx a b = ⟨a, d⟩) ∧
    (f.isInf a = false → f.isInf b = true → fsub f mx a b = ⟨infinityOf f (!b.msb), d⟩) ∧
    (IsFinite f a → IsFinite f b → f.value a' - f.value b' = 0 →
      fsub f mx a b = ⟨if f.isZero a' = true ∧ a.msb ≠ b.msb then a' else zeroOf n down, d⟩) ∧
    (f.isInf a = true ∧ f.isZero b' = false ∨ f.isInf b = true ∧ f.isZero a' = false →
      fmul f mx a b = ⟨infinityOf f neg, d⟩) ∧
    (IsFinite f a → IsFinite f b → f.value a' * f.value b' = 0 → fmul f mx a b = ⟨zeroOf n neg, d⟩) ∧
    (f.isInf a = true → f.isInf b = false → fdiv f mx a b = ⟨infinityOf f neg, d⟩) ∧
    (f.isInf a = false → f.isInf b = true → fdiv f mx a b = ⟨zeroOf n neg, d⟩) ∧
    (f.isZero a' = true → f.isZero b' = false → fdiv f mx a b = ⟨zeroOf n neg, d⟩)

/-- Add, subtract, multiply and divide, at every setting of MXCSR: a result that is not zero is correctly rounded (R273,
R284 to R286), an exact zero and the results of infinite operands are exact and signed as R279 to R281 say. -/
def Obligations.ArithmeticIsCorrectlyRounded : Prop :=
  (ArithmeticRounds single ∧ ArithmeticRounds double) ∧ ExactResults single ∧ ExactResults double

/-- The square root of a positive finite operand, after the substitution of R272, rounds as R273 says and detects D and P alone:
`a` has `f.value a` units of `2^-scale`, so the root of `f.value a * 2^scale` units squared is exact; compared by squares,
without a tie. A zero and plus infinity are their own roots (R282). -/
def Sys2Proof.Spec.SqrtRounds {n : Nat} (f : Fmt n) : Prop :=
  ∀ (mx : Dword) (a : BitVec n),
    let a' := daz f mx a
    let square := f.value a' * 2 ^ f.scale
    let r := fsqrt f mx a
    let v := f.value r.bits
    (f.isZero a' = true → r = ⟨a', 0#6⟩) ∧
    (f.isInf a = true → a.msb = false → r = ⟨a, 0#6⟩) ∧
    (IsFinite f a → 0 < f.value a' →
      IsFinite f r.bits ∧ 0 < v ∧ r.conditions = denormals f mx a a ||| (if v * v ≠ square then 0x20#6 else 0#6) ∧
      (mx.extractLsb' 13 2 = 0#2 → ∀ y, IsFinite f y → 0 ≤ f.value y →
        (v < f.value y → 4 * square ≤ (v + f.value y) * (v + f.value y)) ∧
        (f.value y < v → (v + f.value y) * (v + f.value y) ≤ 4 * square)) ∧
      (mx.extractLsb' 13 2 = 1#2 ∨ mx.extractLsb' 13 2 = 3#2 →
        v * v ≤ square ∧ ∀ y, IsFinite f y → 0 ≤ f.value y → f.value y * f.value y ≤ square → f.value y ≤ v) ∧
      (mx.extractLsb' 13 2 = 2#2 →
        square ≤ v * v ∧ ∀ y, IsFinite f y → 0 ≤ f.value y → square ≤ f.value y * f.value y → v ≤ f.value y))

def Obligations.SquareRootIsCorrectlyRounded : Prop := SqrtRounds single ∧ SqrtRounds double

/-- All that the four operations detect of finite operands whose exact result is not zero: overflow, underflow, precision, each
exactly where its rule says, and a denormal operand. With FZ and UM 1 no result is a denormal, and a non-zero exact result
that comes out zero has U and P detected (R274, R284 to R287). -/
def Sys2Proof.Spec.OutOfRangeRule {n : Nat} (f : Fmt n) : Prop :=
  ∀ (mx : Dword) (a b : BitVec n), IsFinite f a → IsFinite f b →
    let x := f.value (daz f mx a)
    let y := f.value (daz f mx b)
    let d := denormals f mx a b
    (x + y ≠ 0 → ResultDetects f mx (x + y) 1 d (fadd f mx a b)) ∧
    (x - y ≠ 0 → ResultDetects f mx (x - y) 1 d (fsub f mx a b)) ∧
    (x * y ≠ 0 → ResultDetects f mx (x * y) (2 ^ f.scale) d (fmul f mx a b)) ∧
    (x ≠ 0 → y ≠ 0 → ResultDetects f mx (x * 2 ^ f.scale * y.sign) |y| d (fdiv f mx a b)) ∧
    ∀ r ∈ [(fadd f mx a b, x + y), (fsub f mx a b, x - y), (fmul f mx a b, x * y), (fdiv f mx a b, x * y)],
      mx.getLsbD 15 = true → mx.getLsbD 11 = true →
        f.isDenormal r.1.bits = false ∧
        (r.2 ≠ 0 → f.isZero r.1.bits = true → r.1.conditions.getLsbD 4 = true ∧ r.1.conditions.getLsbD 5 = true)

def Obligations.OverflowAndFlushToZero : Prop := OutOfRangeRule single ∧ OutOfRangeRule double

/-- Floating point to a 32-bit integer: the rounded whole number if it is in range, P if it differs; else, and for a NaN or an
infinity, invalid and the integer indefinite (R290). -/
def Sys2Proof.Spec.ToIntegerRule {n : Nat} (f : Fmt n) : Prop :=
  ∀ (mx : Dword) (rc : BitVec 2) (a : BitVec n),
    (¬IsFinite f a → f2i f mx rc a = ⟨0x80000000#32, 0x01#6⟩) ∧
    (IsFinite f a → ∀ m : Int, RoundsToInt rc (f.value (daz f mx a)) (2 ^ f.scale) m →
      ((m < -2147483648 ∨ 2147483647 < m) → f2i f mx rc a = ⟨0x80000000#32, 0x01#6⟩) ∧
      (-2147483648 ≤ m → m ≤ 2147483647 → (f2i f mx rc a).bits.toInt = m ∧
        (f2i f mx rc a).conditions = if m * 2 ^ f.scale ≠ f.value (daz f mx a) then 0x20#6 else 0#6))

def Obligations.FloatToInteger : Prop := ToIntegerRule single ∧ ToIntegerRule double

/-- Integer to double is exact and detects nothing; integer to single rounds and detects P alone, if inexact; single to double is
exact, a NaN keeps its sign and its fraction in the high bits, quieted; double to single rounds, with R284 to R286 and a
denormal operand detected, a NaN keeps its sign and the high bits of its fraction, quieted (R291, R292). -/
def Obligations.WideningAndNarrowing : Prop :=
  ∀ (mx : Dword),
    (∀ x : Dword, double.value (i2f double mx x).bits = x.toInt * 2 ^ double.scale ∧ IsFinite double (i2f double mx x).bits ∧
      (i2f double mx x).conditions = 0#6 ∧ (i2f double mx x).bits.msb = x.msb) ∧
    (∀ x : Dword, x ≠ 0#32 → let r := i2f single mx x
      RoundsTo single (mx.extractLsb' 13 2) (x.toInt * 2 ^ single.scale) 1 r.bits ∧ r.bits.msb = x.msb ∧
      r.conditions = if single.value r.bits ≠ x.toInt * 2 ^ single.scale then 0x20#6 else 0#6) ∧
    i2f single mx 0#32 = ⟨0#32, 0#6⟩ ∧
    (∀ x : Dword, let r := s2d mx x
      (single.isNan x = true → r.bits.msb = x.msb ∧ r.bits.extractLsb' 52 11 = BitVec.allOnes 11 ∧
        r.bits.extractLsb' 29 23 = x.extractLsb' 0 23 ||| 0x400000#23 ∧ r.bits.extractLsb' 0 29 = 0#29 ∧
        r.conditions = if single.isSNan x = true then 0x01#6 else 0#6) ∧
      (single.isInf x = true → double.isInf r.bits = true ∧ r.bits.msb = x.msb ∧ r.conditions = 0#6) ∧
      (IsFinite single x → IsFinite double r.bits ∧ r.bits.msb = x.msb ∧
        double.value r.bits = single.value (daz single mx x) * 2 ^ (double.scale - single.scale) ∧
        r.conditions = if single.isDenormal (daz single mx x) = true then 0x02#6 else 0#6)) ∧
    (∀ x : Qword, let r := d2s mx x
      (double.isNan x = true → r.bits.msb = x.msb ∧ r.bits.extractLsb' 23 8 = BitVec.allOnes 8 ∧
        r.bits.extractLsb' 0 23 = x.extractLsb' 29 23 ||| 0x400000#23 ∧
        r.conditions = if double.isSNan x = true then 0x01#6 else 0#6) ∧
      (double.isInf x = true → single.isInf r.bits = true ∧ r.bits.msb = x.msb ∧ r.conditions = 0#6) ∧
      (IsFinite double x →
        let num := double.value (daz double mx x)
        let den := 2 ^ (double.scale - single.scale)
        (num ≠ 0 → ResultRounds single mx num den r ∧ ResultDetects single mx num den (denormals double mx x x) r) ∧
        (double.isZero (daz double mx x) = true → single.isZero r.bits = true ∧ r.bits.msb = x.msb ∧ r.conditions = 0#6)))

/-- The reciprocal approximations: the special operands, and for the others the sign and the bound `1.5 * 2^-12` on the relative
error, of whatever value the processor's own function gives (R293; log 20). -/
def Obligations.ReciprocalApproximations : Prop :=
  ∀ x : Dword,
    (single.isNan x = true → rcp32 x = x ||| 0x400000#32 ∧ rsqrt32 x = x ||| 0x400000#32) ∧
    (single.isZero x = true ∨ single.isDenormal x = true →
      rcp32 x = (x &&& 0x80000000#32) ||| 0x7F800000#32 ∧ rsqrt32 x = (x &&& 0x80000000#32) ||| 0x7F800000#32) ∧
    (single.isInf x = true → rcp32 x = x &&& 0x80000000#32) ∧
    (x = 0x7F800000#32 → rsqrt32 x = 0#32) ∧
    (x.msb = true → single.isNan x = false → single.isZero x = false → single.isDenormal x = false →
      rsqrt32 x = 0xFFC00000#32) ∧
    (IsFinite single x → single.isZero x = false → single.isDenormal x = false →
      (2 ^ 275 < |single.value x| → rcp32 x = x &&& 0x80000000#32) ∧
      (|single.value x| ≤ 2 ^ 275 → IsFinite single (rcp32 x) ∧ (rcp32 x).msb = x.msb ∧
        8192 * |single.value (rcp32 x) * single.value x - 2 ^ 298| ≤ 3 * 2 ^ 298) ∧
      (0 < single.value x → IsFinite single (rsqrt32 x) ∧ 0 < single.value (rsqrt32 x) ∧
        8189 ^ 2 * 2 ^ 447 ≤ 8192 ^ 2 * (single.value (rsqrt32 x) * single.value (rsqrt32 x) * single.value x) ∧
        8192 ^ 2 * (single.value (rsqrt32 x) * single.value (rsqrt32 x) * single.value x) ≤ 8195 ^ 2 * 2 ^ 447))
end

