-- ==== Sys2Proof/Laws/State.lean ====
section
/-! SUPPORT. What each named update of the state does to each field, by `rfl`, so that no proof unfolds an update. -/

namespace Sys2Proof.Machine

/-! ## `writeGpr` -/

@[simp] theorem State.writeGpr_gpr (s : State) (i : Reg) (v : Dword) :
    (s.writeGpr i v).gpr = s.gpr.set i.toNat v i.isLt := rfl
@[simp] theorem State.writeGpr_eip (s : State) (i : Reg) (v : Dword) : (s.writeGpr i v).eip = s.eip := rfl
@[simp] theorem State.writeGpr_eflags (s : State) (i : Reg) (v : Dword) : (s.writeGpr i v).eflags = s.eflags := rfl
@[simp] theorem State.writeGpr_cr0 (s : State) (i : Reg) (v : Dword) : (s.writeGpr i v).cr0 = s.cr0 := rfl
@[simp] theorem State.writeGpr_cr2 (s : State) (i : Reg) (v : Dword) : (s.writeGpr i v).cr2 = s.cr2 := rfl
@[simp] theorem State.writeGpr_cr4 (s : State) (i : Reg) (v : Dword) : (s.writeGpr i v).cr4 = s.cr4 := rfl
@[simp] theorem State.writeGpr_cpl (s : State) (i : Reg) (v : Dword) : (s.writeGpr i v).cpl = s.cpl := rfl
@[simp] theorem State.writeGpr_segs (s : State) (i : Reg) (v : Dword) : (s.writeGpr i v).segs = s.segs := rfl
@[simp] theorem State.writeGpr_fpr (s : State) (i : Reg) (v : Dword) : (s.writeGpr i v).fpr = s.fpr := rfl
@[simp] theorem State.writeGpr_fcw (s : State) (i : Reg) (v : Dword) : (s.writeGpr i v).fcw = s.fcw := rfl
@[simp] theorem State.writeGpr_fsw (s : State) (i : Reg) (v : Dword) : (s.writeGpr i v).fsw = s.fsw := rfl
@[simp] theorem State.writeGpr_ftw (s : State) (i : Reg) (v : Dword) : (s.writeGpr i v).ftw = s.ftw := rfl
@[simp] theorem State.writeGpr_fop (s : State) (i : Reg) (v : Dword) : (s.writeGpr i v).fop = s.fop := rfl
@[simp] theorem State.writeGpr_fip (s : State) (i : Reg) (v : Dword) : (s.writeGpr i v).fip = s.fip := rfl
@[simp] theorem State.writeGpr_fcs (s : State) (i : Reg) (v : Dword) : (s.writeGpr i v).fcs = s.fcs := rfl
@[simp] theorem State.writeGpr_fdp (s : State) (i : Reg) (v : Dword) : (s.writeGpr i v).fdp = s.fdp := rfl
@[simp] theorem State.writeGpr_fds (s : State) (i : Reg) (v : Dword) : (s.writeGpr i v).fds = s.fds := rfl
@[simp] theorem State.writeGpr_xmm (s : State) (i : Reg) (v : Dword) : (s.writeGpr i v).xmm = s.xmm := rfl
@[simp] theorem State.writeGpr_mxcsr (s : State) (i : Reg) (v : Dword) : (s.writeGpr i v).mxcsr = s.mxcsr := rfl
@[simp] theorem State.writeGpr_mem (s : State) (i : Reg) (v : Dword) : (s.writeGpr i v).mem = s.mem := rfl
@[simp] theorem State.writeGpr_sb (s : State) (i : Reg) (v : Dword) : (s.writeGpr i v).sb = s.sb := rfl
@[simp] theorem State.writeGpr_raised (s : State) (i : Reg) (v : Dword) : (s.writeGpr i v).raised = s.raised := rfl
@[simp] theorem State.writeGpr_plat (s : State) (i : Reg) (v : Dword) : (s.writeGpr i v).plat = s.plat := rfl
@[simp] theorem State.writeGpr_oracle (s : State) (i : Reg) (v : Dword) : (s.writeGpr i v).oracle = s.oracle := rfl
@[simp] theorem State.writeGpr_stored (s : State) (i : Reg) (v : Dword) : (s.writeGpr i v).stored = s.stored := rfl
@[simp] theorem State.writeGpr_phys (s : State) (i : Reg) (v : Dword) (p : Nat) : (s.writeGpr i v).phys p = s.phys p := rfl

/-! ## `writeXmm` -/

@[simp] theorem State.writeXmm_gpr (s : State) (i : Reg) (v : Xmm) : (s.writeXmm i v).gpr = s.gpr := rfl
@[simp] theorem State.writeXmm_eip (s : State) (i : Reg) (v : Xmm) : (s.writeXmm i v).eip = s.eip := rfl
@[simp] theorem State.writeXmm_eflags (s : State) (i : Reg) (v : Xmm) : (s.writeXmm i v).eflags = s.eflags := rfl
@[simp] theorem State.writeXmm_cr0 (s : State) (i : Reg) (v : Xmm) : (s.writeXmm i v).cr0 = s.cr0 := rfl
@[simp] theorem State.writeXmm_cr2 (s : State) (i : Reg) (v : Xmm) : (s.writeXmm i v).cr2 = s.cr2 := rfl
@[simp] theorem State.writeXmm_cr4 (s : State) (i : Reg) (v : Xmm) : (s.writeXmm i v).cr4 = s.cr4 := rfl
@[simp] theorem State.writeXmm_cpl (s : State) (i : Reg) (v : Xmm) : (s.writeXmm i v).cpl = s.cpl := rfl
@[simp] theorem State.writeXmm_segs (s : State) (i : Reg) (v : Xmm) : (s.writeXmm i v).segs = s.segs := rfl
@[simp] theorem State.writeXmm_fpr (s : State) (i : Reg) (v : Xmm) : (s.writeXmm i v).fpr = s.fpr := rfl
@[simp] theorem State.writeXmm_fcw (s : State) (i : Reg) (v : Xmm) : (s.writeXmm i v).fcw = s.fcw := rfl
@[simp] theorem State.writeXmm_fsw (s : State) (i : Reg) (v : Xmm) : (s.writeXmm i v).fsw = s.fsw := rfl
@[simp] theorem State.writeXmm_ftw (s : State) (i : Reg) (v : Xmm) : (s.writeXmm i v).ftw = s.ftw := rfl
@[simp] theorem State.writeXmm_fop (s : State) (i : Reg) (v : Xmm) : (s.writeXmm i v).fop = s.fop := rfl
@[simp] theorem State.writeXmm_fip (s : State) (i : Reg) (v : Xmm) : (s.writeXmm i v).fip = s.fip := rfl
@[simp] theorem State.writeXmm_fcs (s : State) (i : Reg) (v : Xmm) : (s.writeXmm i v).fcs = s.fcs := rfl
@[simp] theorem State.writeXmm_fdp (s : State) (i : Reg) (v : Xmm) : (s.writeXmm i v).fdp = s.fdp := rfl
@[simp] theorem State.writeXmm_fds (s : State) (i : Reg) (v : Xmm) : (s.writeXmm i v).fds = s.fds := rfl
@[simp] theorem State.writeXmm_xmm (s : State) (i : Reg) (v : Xmm) :
    (s.writeXmm i v).xmm = s.xmm.set i.toNat v i.isLt := rfl
@[simp] theorem State.writeXmm_mxcsr (s : State) (i : Reg) (v : Xmm) : (s.writeXmm i v).mxcsr = s.mxcsr := rfl
@[simp] theorem State.writeXmm_mem (s : State) (i : Reg) (v : Xmm) : (s.writeXmm i v).mem = s.mem := rfl
@[simp] theorem State.writeXmm_sb (s : State) (i : Reg) (v : Xmm) : (s.writeXmm i v).sb = s.sb := rfl
@[simp] theorem State.writeXmm_raised (s : State) (i : Reg) (v : Xmm) : (s.writeXmm i v).raised = s.raised := rfl
@[simp] theorem State.writeXmm_plat (s : State) (i : Reg) (v : Xmm) : (s.writeXmm i v).plat = s.plat := rfl
@[simp] theorem State.writeXmm_oracle (s : State) (i : Reg) (v : Xmm) : (s.writeXmm i v).oracle = s.oracle := rfl
@[simp] theorem State.writeXmm_stored (s : State) (i : Reg) (v : Xmm) : (s.writeXmm i v).stored = s.stored := rfl
@[simp] theorem State.writeXmm_phys (s : State) (i : Reg) (v : Xmm) (p : Nat) : (s.writeXmm i v).phys p = s.phys p := rfl

/-! ## `writeFpr` -/

@[simp] theorem State.writeFpr_gpr (s : State) (i : Reg) (v : Fpr) : (s.writeFpr i v).gpr = s.gpr := rfl
@[simp] theorem State.writeFpr_eip (s : State) (i : Reg) (v : Fpr) : (s.writeFpr i v).eip = s.eip := rfl
@[simp] theorem State.writeFpr_eflags (s : State) (i : Reg) (v : Fpr) : (s.writeFpr i v).eflags = s.eflags := rfl
@[simp] theorem State.writeFpr_cr0 (s : State) (i : Reg) (v : Fpr) : (s.writeFpr i v).cr0 = s.cr0 := rfl
@[simp] theorem State.writeFpr_cr2 (s : State) (i : Reg) (v : Fpr) : (s.writeFpr i v).cr2 = s.cr2 := rfl
@[simp] theorem State.writeFpr_cr4 (s : State) (i : Reg) (v : Fpr) : (s.writeFpr i v).cr4 = s.cr4 := rfl
@[simp] theorem State.writeFpr_cpl (s : State) (i : Reg) (v : Fpr) : (s.writeFpr i v).cpl = s.cpl := rfl
@[simp] theorem State.writeFpr_segs (s : State) (i : Reg) (v : Fpr) : (s.writeFpr i v).segs = s.segs := rfl
@[simp] theorem State.writeFpr_fpr (s : State) (i : Reg) (v : Fpr) :
    (s.writeFpr i v).fpr = s.fpr.set i.toNat v i.isLt := rfl
@[simp] theorem State.writeFpr_fcw (s : State) (i : Reg) (v : Fpr) : (s.writeFpr i v).fcw = s.fcw := rfl
@[simp] theorem State.writeFpr_fsw (s : State) (i : Reg) (v : Fpr) : (s.writeFpr i v).fsw = s.fsw := rfl
@[simp] theorem State.writeFpr_ftw (s : State) (i : Reg) (v : Fpr) : (s.writeFpr i v).ftw = s.ftw := rfl
@[simp] theorem State.writeFpr_fop (s : State) (i : Reg) (v : Fpr) : (s.writeFpr i v).fop = s.fop := rfl
@[simp] theorem State.writeFpr_fip (s : State) (i : Reg) (v : Fpr) : (s.writeFpr i v).fip = s.fip := rfl
@[simp] theorem State.writeFpr_fcs (s : State) (i : Reg) (v : Fpr) : (s.writeFpr i v).fcs = s.fcs := rfl
@[simp] theorem State.writeFpr_fdp (s : State) (i : Reg) (v : Fpr) : (s.writeFpr i v).fdp = s.fdp := rfl
@[simp] theorem State.writeFpr_fds (s : State) (i : Reg) (v : Fpr) : (s.writeFpr i v).fds = s.fds := rfl
@[simp] theorem State.writeFpr_xmm (s : State) (i : Reg) (v : Fpr) : (s.writeFpr i v).xmm = s.xmm := rfl
@[simp] theorem State.writeFpr_mxcsr (s : State) (i : Reg) (v : Fpr) : (s.writeFpr i v).mxcsr = s.mxcsr := rfl
@[simp] theorem State.writeFpr_mem (s : State) (i : Reg) (v : Fpr) : (s.writeFpr i v).mem = s.mem := rfl
@[simp] theorem State.writeFpr_sb (s : State) (i : Reg) (v : Fpr) : (s.writeFpr i v).sb = s.sb := rfl
@[simp] theorem State.writeFpr_raised (s : State) (i : Reg) (v : Fpr) : (s.writeFpr i v).raised = s.raised := rfl
@[simp] theorem State.writeFpr_plat (s : State) (i : Reg) (v : Fpr) : (s.writeFpr i v).plat = s.plat := rfl
@[simp] theorem State.writeFpr_oracle (s : State) (i : Reg) (v : Fpr) : (s.writeFpr i v).oracle = s.oracle := rfl
@[simp] theorem State.writeFpr_stored (s : State) (i : Reg) (v : Fpr) : (s.writeFpr i v).stored = s.stored := rfl
@[simp] theorem State.writeFpr_phys (s : State) (i : Reg) (v : Fpr) (p : Nat) : (s.writeFpr i v).phys p = s.phys p := rfl

/-! ## `writeMm` -/

@[simp] theorem State.writeMm_gpr (s : State) (i : Reg) (v : Qword) : (s.writeMm i v).gpr = s.gpr := rfl
@[simp] theorem State.writeMm_eip (s : State) (i : Reg) (v : Qword) : (s.writeMm i v).eip = s.eip := rfl
@[simp] theorem State.writeMm_eflags (s : State) (i : Reg) (v : Qword) : (s.writeMm i v).eflags = s.eflags := rfl
@[simp] theorem State.writeMm_cr0 (s : State) (i : Reg) (v : Qword) : (s.writeMm i v).cr0 = s.cr0 := rfl
@[simp] theorem State.writeMm_cr2 (s : State) (i : Reg) (v : Qword) : (s.writeMm i v).cr2 = s.cr2 := rfl
@[simp] theorem State.writeMm_cr4 (s : State) (i : Reg) (v : Qword) : (s.writeMm i v).cr4 = s.cr4 := rfl
@[simp] theorem State.writeMm_cpl (s : State) (i : Reg) (v : Qword) : (s.writeMm i v).cpl = s.cpl := rfl
@[simp] theorem State.writeMm_segs (s : State) (i : Reg) (v : Qword) : (s.writeMm i v).segs = s.segs := rfl
@[simp] theorem State.writeMm_fpr (s : State) (i : Reg) (v : Qword) :
    (s.writeMm i v).fpr = s.fpr.set i.toNat (0xFFFF#16 ++ v) i.isLt := rfl
@[simp] theorem State.writeMm_fcw (s : State) (i : Reg) (v : Qword) : (s.writeMm i v).fcw = s.fcw := rfl
@[simp] theorem State.writeMm_fsw (s : State) (i : Reg) (v : Qword) : (s.writeMm i v).fsw = fswTop0 s.fsw := rfl
@[simp] theorem State.writeMm_ftw (s : State) (i : Reg) (v : Qword) : (s.writeMm i v).ftw = 0#16 := rfl
@[simp] theorem State.writeMm_fop (s : State) (i : Reg) (v : Qword) : (s.writeMm i v).fop = s.fop := rfl
@[simp] theorem State.writeMm_fip (s : State) (i : Reg) (v : Qword) : (s.writeMm i v).fip = s.fip := rfl
@[simp] theorem State.writeMm_fcs (s : State) (i : Reg) (v : Qword) : (s.writeMm i v).fcs = s.fcs := rfl
@[simp] theorem State.writeMm_fdp (s : State) (i : Reg) (v : Qword) : (s.writeMm i v).fdp = s.fdp := rfl
@[simp] theorem State.writeMm_fds (s : State) (i : Reg) (v : Qword) : (s.writeMm i v).fds = s.fds := rfl
@[simp] theorem State.writeMm_xmm (s : State) (i : Reg) (v : Qword) : (s.writeMm i v).xmm = s.xmm := rfl
@[simp] theorem State.writeMm_mxcsr (s : State) (i : Reg) (v : Qword) : (s.writeMm i v).mxcsr = s.mxcsr := rfl
@[simp] theorem State.writeMm_mem (s : State) (i : Reg) (v : Qword) : (s.writeMm i v).mem = s.mem := rfl
@[simp] theorem State.writeMm_sb (s : State) (i : Reg) (v : Qword) : (s.writeMm i v).sb = s.sb := rfl
@[simp] theorem State.writeMm_raised (s : State) (i : Reg) (v : Qword) : (s.writeMm i v).raised = s.raised := rfl
@[simp] theorem State.writeMm_plat (s : State) (i : Reg) (v : Qword) : (s.writeMm i v).plat = s.plat := rfl
@[simp] theorem State.writeMm_oracle (s : State) (i : Reg) (v : Qword) : (s.writeMm i v).oracle = s.oracle := rfl
@[simp] theorem State.writeMm_stored (s : State) (i : Reg) (v : Qword) : (s.writeMm i v).stored = s.stored := rfl
@[simp] theorem State.writeMm_phys (s : State) (i : Reg) (v : Qword) (p : Nat) : (s.writeMm i v).phys p = s.phys p := rfl

/-! ## `touchX87` -/

@[simp] theorem State.touchX87_gpr (s : State) : (s.touchX87).gpr = s.gpr := rfl
@[simp] theorem State.touchX87_eip (s : State) : (s.touchX87).eip = s.eip := rfl
@[simp] theorem State.touchX87_eflags (s : State) : (s.touchX87).eflags = s.eflags := rfl
@[simp] theorem State.touchX87_cr0 (s : State) : (s.touchX87).cr0 = s.cr0 := rfl
@[simp] theorem State.touchX87_cr2 (s : State) : (s.touchX87).cr2 = s.cr2 := rfl
@[simp] theorem State.touchX87_cr4 (s : State) : (s.touchX87).cr4 = s.cr4 := rfl
@[simp] theorem State.touchX87_cpl (s : State) : (s.touchX87).cpl = s.cpl := rfl
@[simp] theorem State.touchX87_segs (s : State) : (s.touchX87).segs = s.segs := rfl
@[simp] theorem State.touchX87_fpr (s : State) : (s.touchX87).fpr = s.fpr := rfl
@[simp] theorem State.touchX87_fcw (s : State) : (s.touchX87).fcw = s.fcw := rfl
@[simp] theorem State.touchX87_fsw (s : State) : (s.touchX87).fsw = fswTop0 s.fsw := rfl
@[simp] theorem State.touchX87_ftw (s : State) : (s.touchX87).ftw = 0#16 := rfl
@[simp] theorem State.touchX87_fop (s : State) : (s.touchX87).fop = s.fop := rfl
@[simp] theorem State.touchX87_fip (s : State) : (s.touchX87).fip = s.fip := rfl
@[simp] theorem State.touchX87_fcs (s : State) : (s.touchX87).fcs = s.fcs := rfl
@[simp] theorem State.touchX87_fdp (s : State) : (s.touchX87).fdp = s.fdp := rfl
@[simp] theorem State.touchX87_fds (s : State) : (s.touchX87).fds = s.fds := rfl
@[simp] theorem State.touchX87_xmm (s : State) : (s.touchX87).xmm = s.xmm := rfl
@[simp] theorem State.touchX87_mxcsr (s : State) : (s.touchX87).mxcsr = s.mxcsr := rfl
@[simp] theorem State.touchX87_mem (s : State) : (s.touchX87).mem = s.mem := rfl
@[simp] theorem State.touchX87_sb (s : State) : (s.touchX87).sb = s.sb := rfl
@[simp] theorem State.touchX87_raised (s : State) : (s.touchX87).raised = s.raised := rfl
@[simp] theorem State.touchX87_plat (s : State) : (s.touchX87).plat = s.plat := rfl
@[simp] theorem State.touchX87_oracle (s : State) : (s.touchX87).oracle = s.oracle := rfl
@[simp] theorem State.touchX87_stored (s : State) : (s.touchX87).stored = s.stored := rfl
@[simp] theorem State.touchX87_phys (s : State) (p : Nat) : (s.touchX87).phys p = s.phys p := rfl

/-! ## `emptyX87` -/

@[simp] theorem State.emptyX87_gpr (s : State) : (s.emptyX87).gpr = s.gpr := rfl
@[simp] theorem State.emptyX87_eip (s : State) : (s.emptyX87).eip = s.eip := rfl
@[simp] theorem State.emptyX87_eflags (s : State) : (s.emptyX87).eflags = s.eflags := rfl
@[simp] theorem State.emptyX87_cr0 (s : State) : (s.emptyX87).cr0 = s.cr0 := rfl
@[simp] theorem State.emptyX87_cr2 (s : State) : (s.emptyX87).cr2 = s.cr2 := rfl
@[simp] theorem State.emptyX87_cr4 (s : State) : (s.emptyX87).cr4 = s.cr4 := rfl
@[simp] theorem State.emptyX87_cpl (s : State) : (s.emptyX87).cpl = s.cpl := rfl
@[simp] theorem State.emptyX87_segs (s : State) : (s.emptyX87).segs = s.segs := rfl
@[simp] theorem State.emptyX87_fpr (s : State) : (s.emptyX87).fpr = s.fpr := rfl
@[simp] theorem State.emptyX87_fcw (s : State) : (s.emptyX87).fcw = s.fcw := rfl
@[simp] theorem State.emptyX87_fsw (s : State) : (s.emptyX87).fsw = fswTop0 s.fsw := rfl
@[simp] theorem State.emptyX87_ftw (s : State) : (s.emptyX87).ftw = 0xFFFF#16 := rfl
@[simp] theorem State.emptyX87_fop (s : State) : (s.emptyX87).fop = s.fop := rfl
@[simp] theorem State.emptyX87_fip (s : State) : (s.emptyX87).fip = s.fip := rfl
@[simp] theorem State.emptyX87_fcs (s : State) : (s.emptyX87).fcs = s.fcs := rfl
@[simp] theorem State.emptyX87_fdp (s : State) : (s.emptyX87).fdp = s.fdp := rfl
@[simp] theorem State.emptyX87_fds (s : State) : (s.emptyX87).fds = s.fds := rfl
@[simp] theorem State.emptyX87_xmm (s : State) : (s.emptyX87).xmm = s.xmm := rfl
@[simp] theorem State.emptyX87_mxcsr (s : State) : (s.emptyX87).mxcsr = s.mxcsr := rfl
@[simp] theorem State.emptyX87_mem (s : State) : (s.emptyX87).mem = s.mem := rfl
@[simp] theorem State.emptyX87_sb (s : State) : (s.emptyX87).sb = s.sb := rfl
@[simp] theorem State.emptyX87_raised (s : State) : (s.emptyX87).raised = s.raised := rfl
@[simp] theorem State.emptyX87_plat (s : State) : (s.emptyX87).plat = s.plat := rfl
@[simp] theorem State.emptyX87_oracle (s : State) : (s.emptyX87).oracle = s.oracle := rfl
@[simp] theorem State.emptyX87_stored (s : State) : (s.emptyX87).stored = s.stored := rfl
@[simp] theorem State.emptyX87_phys (s : State) (p : Nat) : (s.emptyX87).phys p = s.phys p := rfl

/-! ## `storeBytes` -/

@[simp] theorem State.storeBytes_gpr (s : State) (nt : Bool) (a : Nat) (bs : List Byte) :
    (s.storeBytes nt a bs).gpr = s.gpr := rfl
@[simp] theorem State.storeBytes_eip (s : State) (nt : Bool) (a : Nat) (bs : List Byte) :
    (s.storeBytes nt a bs).eip = s.eip := rfl
@[simp] theorem State.storeBytes_eflags (s : State) (nt : Bool) (a : Nat) (bs : List Byte) :
    (s.storeBytes nt a bs).eflags = s.eflags := rfl
@[simp] theorem State.storeBytes_cr0 (s : State) (nt : Bool) (a : Nat) (bs : List Byte) :
    (s.storeBytes nt a bs).cr0 = s.cr0 := rfl
@[simp] theorem State.storeBytes_cr2 (s : State) (nt : Bool) (a : Nat) (bs : List Byte) :
    (s.storeBytes nt a bs).cr2 = s.cr2 := rfl
@[simp] theorem State.storeBytes_cr4 (s : State) (nt : Bool) (a : Nat) (bs : List Byte) :
    (s.storeBytes nt a bs).cr4 = s.cr4 := rfl
@[simp] theorem State.storeBytes_cpl (s : State) (nt : Bool) (a : Nat) (bs : List Byte) :
    (s.storeBytes nt a bs).cpl = s.cpl := rfl
@[simp] theorem State.storeBytes_segs (s : State) (nt : Bool) (a : Nat) (bs : List Byte) :
    (s.storeBytes nt a bs).segs = s.segs := rfl
@[simp] theorem State.storeBytes_fpr (s : State) (nt : Bool) (a : Nat) (bs : List Byte) :
    (s.storeBytes nt a bs).fpr = s.fpr := rfl
@[simp] theorem State.storeBytes_fcw (s : State) (nt : Bool) (a : Nat) (bs : List Byte) :
    (s.storeBytes nt a bs).fcw = s.fcw := rfl
@[simp] theorem State.storeBytes_fsw (s : State) (nt : Bool) (a : Nat) (bs : List Byte) :
    (s.storeBytes nt a bs).fsw = s.fsw := rfl
@[simp] theorem State.storeBytes_ftw (s : State) (nt : Bool) (a : Nat) (bs : List Byte) :
    (s.storeBytes nt a bs).ftw = s.ftw := rfl
@[simp] theorem State.storeBytes_fop (s : State) (nt : Bool) (a : Nat) (bs : List Byte) :
    (s.storeBytes nt a bs).fop = s.fop := rfl
@[simp] theorem State.storeBytes_fip (s : State) (nt : Bool) (a : Nat) (bs : List Byte) :
    (s.storeBytes nt a bs).fip = s.fip := rfl
@[simp] theorem State.storeBytes_fcs (s : State) (nt : Bool) (a : Nat) (bs : List Byte) :
    (s.storeBytes nt a bs).fcs = s.fcs := rfl
@[simp] theorem State.storeBytes_fdp (s : State) (nt : Bool) (a : Nat) (bs : List Byte) :
    (s.storeBytes nt a bs).fdp = s.fdp := rfl
@[simp] theorem State.storeBytes_fds (s : State) (nt : Bool) (a : Nat) (bs : List Byte) :
    (s.storeBytes nt a bs).fds = s.fds := rfl
@[simp] theorem State.storeBytes_xmm (s : State) (nt : Bool) (a : Nat) (bs : List Byte) :
    (s.storeBytes nt a bs).xmm = s.xmm := rfl
@[simp] theorem State.storeBytes_mxcsr (s : State) (nt : Bool) (a : Nat) (bs : List Byte) :
    (s.storeBytes nt a bs).mxcsr = s.mxcsr := rfl
@[simp] theorem State.storeBytes_mem (s : State) (nt : Bool) (a : Nat) (bs : List Byte) :
    (s.storeBytes nt a bs).mem = s.mem := rfl
@[simp] theorem State.storeBytes_sb (s : State) (nt : Bool) (a : Nat) (bs : List Byte) :
    (s.storeBytes nt a bs).sb = s.sb ++ s.storeGroups nt a bs := rfl
@[simp] theorem State.storeBytes_raised (s : State) (nt : Bool) (a : Nat) (bs : List Byte) :
    (s.storeBytes nt a bs).raised = s.raised := rfl
@[simp] theorem State.storeBytes_plat (s : State) (nt : Bool) (a : Nat) (bs : List Byte) :
    (s.storeBytes nt a bs).plat = s.plat := rfl
@[simp] theorem State.storeBytes_oracle (s : State) (nt : Bool) (a : Nat) (bs : List Byte) :
    (s.storeBytes nt a bs).oracle = s.oracle := rfl
@[simp] theorem State.storeBytes_stored (s : State) (nt : Bool) (a : Nat) (bs : List Byte) :
    (s.storeBytes nt a bs).stored = (s.storeGroups nt a bs).filterMap SbEntry.extent ++ s.stored := rfl
@[simp] theorem State.storeBytes_phys (s : State) (nt : Bool) (a : Nat) (bs : List Byte) (p : Nat) : (s.storeBytes nt a bs).phys p = s.phys p := rfl

/-! ## `drainAll` -/

@[simp] theorem State.drainAll_gpr (s : State) : (s.drainAll).gpr = s.gpr := rfl
@[simp] theorem State.drainAll_eip (s : State) : (s.drainAll).eip = s.eip := rfl
@[simp] theorem State.drainAll_eflags (s : State) : (s.drainAll).eflags = s.eflags := rfl
@[simp] theorem State.drainAll_cr0 (s : State) : (s.drainAll).cr0 = s.cr0 := rfl
@[simp] theorem State.drainAll_cr2 (s : State) : (s.drainAll).cr2 = s.cr2 := rfl
@[simp] theorem State.drainAll_cr4 (s : State) : (s.drainAll).cr4 = s.cr4 := rfl
@[simp] theorem State.drainAll_cpl (s : State) : (s.drainAll).cpl = s.cpl := rfl
@[simp] theorem State.drainAll_segs (s : State) : (s.drainAll).segs = s.segs := rfl
@[simp] theorem State.drainAll_fpr (s : State) : (s.drainAll).fpr = s.fpr := rfl
@[simp] theorem State.drainAll_fcw (s : State) : (s.drainAll).fcw = s.fcw := rfl
@[simp] theorem State.drainAll_fsw (s : State) : (s.drainAll).fsw = s.fsw := rfl
@[simp] theorem State.drainAll_ftw (s : State) : (s.drainAll).ftw = s.ftw := rfl
@[simp] theorem State.drainAll_fop (s : State) : (s.drainAll).fop = s.fop := rfl
@[simp] theorem State.drainAll_fip (s : State) : (s.drainAll).fip = s.fip := rfl
@[simp] theorem State.drainAll_fcs (s : State) : (s.drainAll).fcs = s.fcs := rfl
@[simp] theorem State.drainAll_fdp (s : State) : (s.drainAll).fdp = s.fdp := rfl
@[simp] theorem State.drainAll_fds (s : State) : (s.drainAll).fds = s.fds := rfl
@[simp] theorem State.drainAll_xmm (s : State) : (s.drainAll).xmm = s.xmm := rfl
@[simp] theorem State.drainAll_mxcsr (s : State) : (s.drainAll).mxcsr = s.mxcsr := rfl
@[simp] theorem State.drainAll_mem (s : State) : (s.drainAll).mem = s.sb.foldl SbEntry.apply s.mem := rfl
@[simp] theorem State.drainAll_sb (s : State) : (s.drainAll).sb = [] := rfl
@[simp] theorem State.drainAll_raised (s : State) : (s.drainAll).raised = s.raised := rfl
@[simp] theorem State.drainAll_plat (s : State) : (s.drainAll).plat = s.plat := rfl
@[simp] theorem State.drainAll_oracle (s : State) : (s.drainAll).oracle = s.oracle := rfl
@[simp] theorem State.drainAll_stored (s : State) : (s.drainAll).stored = s.stored := rfl
@[simp] theorem State.drainAll_phys (s : State) (p : Nat) : (s.drainAll).phys p = s.phys p := rfl

/-! ## `fenceStores` -/

@[simp] theorem State.fenceStores_gpr (s : State) : (s.fenceStores).gpr = s.gpr := rfl
@[simp] theorem State.fenceStores_eip (s : State) : (s.fenceStores).eip = s.eip := rfl
@[simp] theorem State.fenceStores_eflags (s : State) : (s.fenceStores).eflags = s.eflags := rfl
@[simp] theorem State.fenceStores_cr0 (s : State) : (s.fenceStores).cr0 = s.cr0 := rfl
@[simp] theorem State.fenceStores_cr2 (s : State) : (s.fenceStores).cr2 = s.cr2 := rfl
@[simp] theorem State.fenceStores_cr4 (s : State) : (s.fenceStores).cr4 = s.cr4 := rfl
@[simp] theorem State.fenceStores_cpl (s : State) : (s.fenceStores).cpl = s.cpl := rfl
@[simp] theorem State.fenceStores_segs (s : State) : (s.fenceStores).segs = s.segs := rfl
@[simp] theorem State.fenceStores_fpr (s : State) : (s.fenceStores).fpr = s.fpr := rfl
@[simp] theorem State.fenceStores_fcw (s : State) : (s.fenceStores).fcw = s.fcw := rfl
@[simp] theorem State.fenceStores_fsw (s : State) : (s.fenceStores).fsw = s.fsw := rfl
@[simp] theorem State.fenceStores_ftw (s : State) : (s.fenceStores).ftw = s.ftw := rfl
@[simp] theorem State.fenceStores_fop (s : State) : (s.fenceStores).fop = s.fop := rfl
@[simp] theorem State.fenceStores_fip (s : State) : (s.fenceStores).fip = s.fip := rfl
@[simp] theorem State.fenceStores_fcs (s : State) : (s.fenceStores).fcs = s.fcs := rfl
@[simp] theorem State.fenceStores_fdp (s : State) : (s.fenceStores).fdp = s.fdp := rfl
@[simp] theorem State.fenceStores_fds (s : State) : (s.fenceStores).fds = s.fds := rfl
@[simp] theorem State.fenceStores_xmm (s : State) : (s.fenceStores).xmm = s.xmm := rfl
@[simp] theorem State.fenceStores_mxcsr (s : State) : (s.fenceStores).mxcsr = s.mxcsr := rfl
@[simp] theorem State.fenceStores_mem (s : State) : (s.fenceStores).mem = s.mem := rfl
@[simp] theorem State.fenceStores_sb (s : State) : (s.fenceStores).sb = dropFences (s.sb ++ [.sf]) := rfl
@[simp] theorem State.fenceStores_raised (s : State) : (s.fenceStores).raised = s.raised := rfl
@[simp] theorem State.fenceStores_plat (s : State) : (s.fenceStores).plat = s.plat := rfl
@[simp] theorem State.fenceStores_oracle (s : State) : (s.fenceStores).oracle = s.oracle := rfl
@[simp] theorem State.fenceStores_stored (s : State) : (s.fenceStores).stored = s.stored := rfl
@[simp] theorem State.fenceStores_phys (s : State) (p : Nat) : (s.fenceStores).phys p = s.phys p := rfl

/-! ## `takeException` -/

@[simp] theorem takeException_gpr (s : State) (x : Raise) : (takeException s x).gpr = s.gpr := rfl
@[simp] theorem takeException_eip (s : State) (x : Raise) : (takeException s x).eip = s.eip := rfl
@[simp] theorem takeException_eflags (s : State) (x : Raise) : (takeException s x).eflags = s.eflags := rfl
@[simp] theorem takeException_cr0 (s : State) (x : Raise) : (takeException s x).cr0 = s.cr0 := rfl
@[simp] theorem takeException_cr2 (s : State) (x : Raise) : (takeException s x).cr2 = x.addr.getD s.cr2 := rfl
@[simp] theorem takeException_cr4 (s : State) (x : Raise) : (takeException s x).cr4 = s.cr4 := rfl
@[simp] theorem takeException_cpl (s : State) (x : Raise) : (takeException s x).cpl = s.cpl := rfl
@[simp] theorem takeException_segs (s : State) (x : Raise) : (takeException s x).segs = s.segs := rfl
@[simp] theorem takeException_fpr (s : State) (x : Raise) : (takeException s x).fpr = s.fpr := rfl
@[simp] theorem takeException_fcw (s : State) (x : Raise) : (takeException s x).fcw = s.fcw := rfl
@[simp] theorem takeException_fsw (s : State) (x : Raise) : (takeException s x).fsw = s.fsw := rfl
@[simp] theorem takeException_ftw (s : State) (x : Raise) : (takeException s x).ftw = s.ftw := rfl
@[simp] theorem takeException_fop (s : State) (x : Raise) : (takeException s x).fop = s.fop := rfl
@[simp] theorem takeException_fip (s : State) (x : Raise) : (takeException s x).fip = s.fip := rfl
@[simp] theorem takeException_fcs (s : State) (x : Raise) : (takeException s x).fcs = s.fcs := rfl
@[simp] theorem takeException_fdp (s : State) (x : Raise) : (takeException s x).fdp = s.fdp := rfl
@[simp] theorem takeException_fds (s : State) (x : Raise) : (takeException s x).fds = s.fds := rfl
@[simp] theorem takeException_xmm (s : State) (x : Raise) : (takeException s x).xmm = s.xmm := rfl
@[simp] theorem takeException_mxcsr (s : State) (x : Raise) :
    (takeException s x).mxcsr = mxOr s.mxcsr x.conditions := rfl
@[simp] theorem takeException_mem (s : State) (x : Raise) : (takeException s x).mem = s.mem := rfl
@[simp] theorem takeException_sb (s : State) (x : Raise) : (takeException s x).sb = s.sb := rfl
@[simp] theorem takeException_raised (s : State) (x : Raise) :
    (takeException s x).raised = some ⟨x.exn, x.code, s.eip, x.addr⟩ := rfl
@[simp] theorem takeException_plat (s : State) (x : Raise) : (takeException s x).plat = s.plat := rfl
@[simp] theorem takeException_oracle (s : State) (x : Raise) : (takeException s x).oracle = s.oracle := rfl
@[simp] theorem takeException_stored (s : State) (x : Raise) : (takeException s x).stored = s.stored := rfl
@[simp] theorem takeException_phys (s : State) (x : Raise) (p : Nat) : (takeException s x).phys p = s.phys p := rfl

/-! ## `placeCode` -/

@[simp] theorem State.placeCode_gpr (s : State) (bs : List Byte) : (s.placeCode bs).gpr = s.gpr := rfl
@[simp] theorem State.placeCode_eip (s : State) (bs : List Byte) : (s.placeCode bs).eip = s.eip := rfl
@[simp] theorem State.placeCode_eflags (s : State) (bs : List Byte) : (s.placeCode bs).eflags = s.eflags := rfl
@[simp] theorem State.placeCode_cr0 (s : State) (bs : List Byte) : (s.placeCode bs).cr0 = s.cr0 := rfl
@[simp] theorem State.placeCode_cr2 (s : State) (bs : List Byte) : (s.placeCode bs).cr2 = s.cr2 := rfl
@[simp] theorem State.placeCode_cr4 (s : State) (bs : List Byte) : (s.placeCode bs).cr4 = s.cr4 := rfl
@[simp] theorem State.placeCode_cpl (s : State) (bs : List Byte) : (s.placeCode bs).cpl = s.cpl := rfl
@[simp] theorem State.placeCode_segs (s : State) (bs : List Byte) : (s.placeCode bs).segs = s.segs := rfl
@[simp] theorem State.placeCode_fpr (s : State) (bs : List Byte) : (s.placeCode bs).fpr = s.fpr := rfl
@[simp] theorem State.placeCode_fcw (s : State) (bs : List Byte) : (s.placeCode bs).fcw = s.fcw := rfl
@[simp] theorem State.placeCode_fsw (s : State) (bs : List Byte) : (s.placeCode bs).fsw = s.fsw := rfl
@[simp] theorem State.placeCode_ftw (s : State) (bs : List Byte) : (s.placeCode bs).ftw = s.ftw := rfl
@[simp] theorem State.placeCode_fop (s : State) (bs : List Byte) : (s.placeCode bs).fop = s.fop := rfl
@[simp] theorem State.placeCode_fip (s : State) (bs : List Byte) : (s.placeCode bs).fip = s.fip := rfl
@[simp] theorem State.placeCode_fcs (s : State) (bs : List Byte) : (s.placeCode bs).fcs = s.fcs := rfl
@[simp] theorem State.placeCode_fdp (s : State) (bs : List Byte) : (s.placeCode bs).fdp = s.fdp := rfl
@[simp] theorem State.placeCode_fds (s : State) (bs : List Byte) : (s.placeCode bs).fds = s.fds := rfl
@[simp] theorem State.placeCode_xmm (s : State) (bs : List Byte) : (s.placeCode bs).xmm = s.xmm := rfl
@[simp] theorem State.placeCode_mxcsr (s : State) (bs : List Byte) : (s.placeCode bs).mxcsr = s.mxcsr := rfl
@[simp] theorem State.placeCode_mem (s : State) (bs : List Byte) :
    (s.placeCode bs).mem = s.writeAt s.mem s.fetchAddr bs := rfl
@[simp] theorem State.placeCode_sb (s : State) (bs : List Byte) : (s.placeCode bs).sb = s.sb := rfl
@[simp] theorem State.placeCode_raised (s : State) (bs : List Byte) : (s.placeCode bs).raised = s.raised := rfl
@[simp] theorem State.placeCode_plat (s : State) (bs : List Byte) : (s.placeCode bs).plat = s.plat := rfl
@[simp] theorem State.placeCode_oracle (s : State) (bs : List Byte) : (s.placeCode bs).oracle = s.oracle := rfl
@[simp] theorem State.placeCode_phys (s : State) (bs : List Byte) (p : Nat) : (s.placeCode bs).phys p = s.phys p := rfl

@[simp] theorem State.storeEach_gpr (s : State) (nt : Bool) (a : Nat) (l : List (Nat × Byte)) :
    (s.storeEach nt a l).gpr = s.gpr := by
  unfold State.storeEach
  induction l generalizing s with
  | nil => rfl
  | cons o os ih => exact ih _
@[simp] theorem State.storeEach_eip (s : State) (nt : Bool) (a : Nat) (l : List (Nat × Byte)) :
    (s.storeEach nt a l).eip = s.eip := by
  unfold State.storeEach
  induction l generalizing s with
  | nil => rfl
  | cons o os ih => exact ih _
@[simp] theorem State.storeEach_eflags (s : State) (nt : Bool) (a : Nat) (l : List (Nat × Byte)) :
    (s.storeEach nt a l).eflags = s.eflags := by
  unfold State.storeEach
  induction l generalizing s with
  | nil => rfl
  | cons o os ih => exact ih _
@[simp] theorem State.storeEach_cr0 (s : State) (nt : Bool) (a : Nat) (l : List (Nat × Byte)) :
    (s.storeEach nt a l).cr0 = s.cr0 := by
  unfold State.storeEach
  induction l generalizing s with
  | nil => rfl
  | cons o os ih => exact ih _
@[simp] theorem State.storeEach_cr2 (s : State) (nt : Bool) (a : Nat) (l : List (Nat × Byte)) :
    (s.storeEach nt a l).cr2 = s.cr2 := by
  unfold State.storeEach
  induction l generalizing s with
  | nil => rfl
  | cons o os ih => exact ih _
@[simp] theorem State.storeEach_cr4 (s : State) (nt : Bool) (a : Nat) (l : List (Nat × Byte)) :
    (s.storeEach nt a l).cr4 = s.cr4 := by
  unfold State.storeEach
  induction l generalizing s with
  | nil => rfl
  | cons o os ih => exact ih _
@[simp] theorem State.storeEach_cpl (s : State) (nt : Bool) (a : Nat) (l : List (Nat × Byte)) :
    (s.storeEach nt a l).cpl = s.cpl := by
  unfold State.storeEach
  induction l generalizing s with
  | nil => rfl
  | cons o os ih => exact ih _
@[simp] theorem State.storeEach_segs (s : State) (nt : Bool) (a : Nat) (l : List (Nat × Byte)) :
    (s.storeEach nt a l).segs = s.segs := by
  unfold State.storeEach
  induction l generalizing s with
  | nil => rfl
  | cons o os ih => exact ih _
@[simp] theorem State.storeEach_fpr (s : State) (nt : Bool) (a : Nat) (l : List (Nat × Byte)) :
    (s.storeEach nt a l).fpr = s.fpr := by
  unfold State.storeEach
  induction l generalizing s with
  | nil => rfl
  | cons o os ih => exact ih _
@[simp] theorem State.storeEach_fcw (s : State) (nt : Bool) (a : Nat) (l : List (Nat × Byte)) :
    (s.storeEach nt a l).fcw = s.fcw := by
  unfold State.storeEach
  induction l generalizing s with
  | nil => rfl
  | cons o os ih => exact ih _
@[simp] theorem State.storeEach_fsw (s : State) (nt : Bool) (a : Nat) (l : List (Nat × Byte)) :
    (s.storeEach nt a l).fsw = s.fsw := by
  unfold State.storeEach
  induction l generalizing s with
  | nil => rfl
  | cons o os ih => exact ih _
@[simp] theorem State.storeEach_ftw (s : State) (nt : Bool) (a : Nat) (l : List (Nat × Byte)) :
    (s.storeEach nt a l).ftw = s.ftw := by
  unfold State.storeEach
  induction l generalizing s with
  | nil => rfl
  | cons o os ih => exact ih _
@[simp] theorem State.storeEach_fop (s : State) (nt : Bool) (a : Nat) (l : List (Nat × Byte)) :
    (s.storeEach nt a l).fop = s.fop := by
  unfold State.storeEach
  induction l generalizing s with
  | nil => rfl
  | cons o os ih => exact ih _
@[simp] theorem State.storeEach_fip (s : State) (nt : Bool) (a : Nat) (l : List (Nat × Byte)) :
    (s.storeEach nt a l).fip = s.fip := by
  unfold State.storeEach
  induction l generalizing s with
  | nil => rfl
  | cons o os ih => exact ih _
@[simp] theorem State.storeEach_fcs (s : State) (nt : Bool) (a : Nat) (l : List (Nat × Byte)) :
    (s.storeEach nt a l).fcs = s.fcs := by
  unfold State.storeEach
  induction l generalizing s with
  | nil => rfl
  | cons o os ih => exact ih _
@[simp] theorem State.storeEach_fdp (s : State) (nt : Bool) (a : Nat) (l : List (Nat × Byte)) :
    (s.storeEach nt a l).fdp = s.fdp := by
  unfold State.storeEach
  induction l generalizing s with
  | nil => rfl
  | cons o os ih => exact ih _
@[simp] theorem State.storeEach_fds (s : State) (nt : Bool) (a : Nat) (l : List (Nat × Byte)) :
    (s.storeEach nt a l).fds = s.fds := by
  unfold State.storeEach
  induction l generalizing s with
  | nil => rfl
  | cons o os ih => exact ih _
@[simp] theorem State.storeEach_xmm (s : State) (nt : Bool) (a : Nat) (l : List (Nat × Byte)) :
    (s.storeEach nt a l).xmm = s.xmm := by
  unfold State.storeEach
  induction l generalizing s with
  | nil => rfl
  | cons o os ih => exact ih _
@[simp] theorem State.storeEach_mxcsr (s : State) (nt : Bool) (a : Nat) (l : List (Nat × Byte)) :
    (s.storeEach nt a l).mxcsr = s.mxcsr := by
  unfold State.storeEach
  induction l generalizing s with
  | nil => rfl
  | cons o os ih => exact ih _
@[simp] theorem State.storeEach_mem (s : State) (nt : Bool) (a : Nat) (l : List (Nat × Byte)) :
    (s.storeEach nt a l).mem = s.mem := by
  unfold State.storeEach
  induction l generalizing s with
  | nil => rfl
  | cons o os ih => exact ih _
@[simp] theorem State.storeEach_raised (s : State) (nt : Bool) (a : Nat) (l : List (Nat × Byte)) :
    (s.storeEach nt a l).raised = s.raised := by
  unfold State.storeEach
  induction l generalizing s with
  | nil => rfl
  | cons o os ih => exact ih _
@[simp] theorem State.storeEach_plat (s : State) (nt : Bool) (a : Nat) (l : List (Nat × Byte)) :
    (s.storeEach nt a l).plat = s.plat := by
  unfold State.storeEach
  induction l generalizing s with
  | nil => rfl
  | cons o os ih => exact ih _
@[simp] theorem State.storeEach_oracle (s : State) (nt : Bool) (a : Nat) (l : List (Nat × Byte)) :
    (s.storeEach nt a l).oracle = s.oracle := by
  unfold State.storeEach
  induction l generalizing s with
  | nil => rfl
  | cons o os ih => exact ih _

@[simp] theorem State.deliver_gpr (s : State) : s.deliver.gpr = (Config.deliver s).1.gpr := by simp [State.deliver]
@[simp] theorem State.deliver_eip (s : State) : s.deliver.eip = (Config.deliver s).1.eip := by simp [State.deliver]
@[simp] theorem State.deliver_eflags (s : State) : s.deliver.eflags = (Config.deliver s).1.eflags := by simp [State.deliver]
@[simp] theorem State.deliver_cr0 (s : State) : s.deliver.cr0 = s.cr0 := by simp [State.deliver]
@[simp] theorem State.deliver_cr2 (s : State) : s.deliver.cr2 = s.cr2 := by simp [State.deliver]
@[simp] theorem State.deliver_cr4 (s : State) : s.deliver.cr4 = s.cr4 := by simp [State.deliver]
@[simp] theorem State.deliver_cpl (s : State) : s.deliver.cpl = (Config.deliver s).1.cpl := by simp [State.deliver]
@[simp] theorem State.deliver_segs (s : State) : s.deliver.segs = (Config.deliver s).1.segs := by simp [State.deliver]
@[simp] theorem State.deliver_fpr (s : State) : s.deliver.fpr = s.fpr := by simp [State.deliver]
@[simp] theorem State.deliver_fcw (s : State) : s.deliver.fcw = s.fcw := by simp [State.deliver]
@[simp] theorem State.deliver_fsw (s : State) : s.deliver.fsw = s.fsw := by simp [State.deliver]
@[simp] theorem State.deliver_ftw (s : State) : s.deliver.ftw = s.ftw := by simp [State.deliver]
@[simp] theorem State.deliver_fop (s : State) : s.deliver.fop = s.fop := by simp [State.deliver]
@[simp] theorem State.deliver_fip (s : State) : s.deliver.fip = s.fip := by simp [State.deliver]
@[simp] theorem State.deliver_fcs (s : State) : s.deliver.fcs = s.fcs := by simp [State.deliver]
@[simp] theorem State.deliver_fdp (s : State) : s.deliver.fdp = s.fdp := by simp [State.deliver]
@[simp] theorem State.deliver_fds (s : State) : s.deliver.fds = s.fds := by simp [State.deliver]
@[simp] theorem State.deliver_xmm (s : State) : s.deliver.xmm = s.xmm := by simp [State.deliver]
@[simp] theorem State.deliver_mxcsr (s : State) : s.deliver.mxcsr = s.mxcsr := by simp [State.deliver]
@[simp] theorem State.deliver_mem (s : State) : s.deliver.mem = s.mem := by simp [State.deliver]
@[simp] theorem State.deliver_raised (s : State) : s.deliver.raised = none := by simp [State.deliver]
@[simp] theorem State.deliver_plat (s : State) : s.deliver.plat = s.plat := by simp [State.deliver]
@[simp] theorem State.deliver_oracle (s : State) : s.deliver.oracle = s.oracle := by simp [State.deliver]

@[simp] theorem State.drainAt_gpr (s : State) (i : Nat) : (s.drainAt i).gpr = s.gpr := by
  unfold State.drainAt
  repeat (first | rfl | split)
@[simp] theorem State.drainAt_eip (s : State) (i : Nat) : (s.drainAt i).eip = s.eip := by
  unfold State.drainAt
  repeat (first | rfl | split)
@[simp] theorem State.drainAt_eflags (s : State) (i : Nat) : (s.drainAt i).eflags = s.eflags := by
  unfold State.drainAt
  repeat (first | rfl | split)
@[simp] theorem State.drainAt_cr0 (s : State) (i : Nat) : (s.drainAt i).cr0 = s.cr0 := by
  unfold State.drainAt
  repeat (first | rfl | split)
@[simp] theorem State.drainAt_cr2 (s : State) (i : Nat) : (s.drainAt i).cr2 = s.cr2 := by
  unfold State.drainAt
  repeat (first | rfl | split)
@[simp] theorem State.drainAt_cr4 (s : State) (i : Nat) : (s.drainAt i).cr4 = s.cr4 := by
  unfold State.drainAt
  repeat (first | rfl | split)
@[simp] theorem State.drainAt_cpl (s : State) (i : Nat) : (s.drainAt i).cpl = s.cpl := by
  unfold State.drainAt
  repeat (first | rfl | split)
@[simp] theorem State.drainAt_segs (s : State) (i : Nat) : (s.drainAt i).segs = s.segs := by
  unfold State.drainAt
  repeat (first | rfl | split)
@[simp] theorem State.drainAt_fpr (s : State) (i : Nat) : (s.drainAt i).fpr = s.fpr := by
  unfold State.drainAt
  repeat (first | rfl | split)
@[simp] theorem State.drainAt_fcw (s : State) (i : Nat) : (s.drainAt i).fcw = s.fcw := by
  unfold State.drainAt
  repeat (first | rfl | split)
@[simp] theorem State.drainAt_fsw (s : State) (i : Nat) : (s.drainAt i).fsw = s.fsw := by
  unfold State.drainAt
  repeat (first | rfl | split)
@[simp] theorem State.drainAt_ftw (s : State) (i : Nat) : (s.drainAt i).ftw = s.ftw := by
  unfold State.drainAt
  repeat (first | rfl | split)
@[simp] theorem State.drainAt_fop (s : State) (i : Nat) : (s.drainAt i).fop = s.fop := by
  unfold State.drainAt
  repeat (first | rfl | split)
@[simp] theorem State.drainAt_fip (s : State) (i : Nat) : (s.drainAt i).fip = s.fip := by
  unfold State.drainAt
  repeat (first | rfl | split)
@[simp] theorem State.drainAt_fcs (s : State) (i : Nat) : (s.drainAt i).fcs = s.fcs := by
  unfold State.drainAt
  repeat (first | rfl | split)
@[simp] theorem State.drainAt_fdp (s : State) (i : Nat) : (s.drainAt i).fdp = s.fdp := by
  unfold State.drainAt
  repeat (first | rfl | split)
@[simp] theorem State.drainAt_fds (s : State) (i : Nat) : (s.drainAt i).fds = s.fds := by
  unfold State.drainAt
  repeat (first | rfl | split)
@[simp] theorem State.drainAt_xmm (s : State) (i : Nat) : (s.drainAt i).xmm = s.xmm := by
  unfold State.drainAt
  repeat (first | rfl | split)
@[simp] theorem State.drainAt_mxcsr (s : State) (i : Nat) : (s.drainAt i).mxcsr = s.mxcsr := by
  unfold State.drainAt
  repeat (first | rfl | split)
@[simp] theorem State.drainAt_raised (s : State) (i : Nat) : (s.drainAt i).raised = s.raised := by
  unfold State.drainAt
  repeat (first | rfl | split)
@[simp] theorem State.drainAt_plat (s : State) (i : Nat) : (s.drainAt i).plat = s.plat := by
  unfold State.drainAt
  repeat (first | rfl | split)
@[simp] theorem State.drainAt_oracle (s : State) (i : Nat) : (s.drainAt i).oracle = s.oracle := by
  unfold State.drainAt
  repeat (first | rfl | split)
@[simp] theorem State.drainAt_stored (s : State) (i : Nat) : (s.drainAt i).stored = s.stored := by
  unfold State.drainAt
  repeat (first | rfl | split)

@[simp] theorem advance_gpr (n : Nat) (s : State) : (advance n s).gpr = s.gpr := by
  unfold advance
  split <;> rfl
@[simp] theorem advance_eflags (n : Nat) (s : State) : (advance n s).eflags = s.eflags := by
  unfold advance
  split <;> rfl
@[simp] theorem advance_cr0 (n : Nat) (s : State) : (advance n s).cr0 = s.cr0 := by
  unfold advance
  split <;> rfl
@[simp] theorem advance_cr2 (n : Nat) (s : State) : (advance n s).cr2 = s.cr2 := by
  unfold advance
  split <;> rfl
@[simp] theorem advance_cr4 (n : Nat) (s : State) : (advance n s).cr4 = s.cr4 := by
  unfold advance
  split <;> rfl
@[simp] theorem advance_cpl (n : Nat) (s : State) : (advance n s).cpl = s.cpl := by
  unfold advance
  split <;> rfl
@[simp] theorem advance_segs (n : Nat) (s : State) : (advance n s).segs = s.segs := by
  unfold advance
  split <;> rfl
@[simp] theorem advance_fpr (n : Nat) (s : State) : (advance n s).fpr = s.fpr := by
  unfold advance
  split <;> rfl
@[simp] theorem advance_fcw (n : Nat) (s : State) : (advance n s).fcw = s.fcw := by
  unfold advance
  split <;> rfl
@[simp] theorem advance_fsw (n : Nat) (s : State) : (advance n s).fsw = s.fsw := by
  unfold advance
  split <;> rfl
@[simp] theorem advance_ftw (n : Nat) (s : State) : (advance n s).ftw = s.ftw := by
  unfold advance
  split <;> rfl
@[simp] theorem advance_fop (n : Nat) (s : State) : (advance n s).fop = s.fop := by
  unfold advance
  split <;> rfl
@[simp] theorem advance_fip (n : Nat) (s : State) : (advance n s).fip = s.fip := by
  unfold advance
  split <;> rfl
@[simp] theorem advance_fcs (n : Nat) (s : State) : (advance n s).fcs = s.fcs := by
  unfold advance
  split <;> rfl
@[simp] theorem advance_fdp (n : Nat) (s : State) : (advance n s).fdp = s.fdp := by
  unfold advance
  split <;> rfl
@[simp] theorem advance_fds (n : Nat) (s : State) : (advance n s).fds = s.fds := by
  unfold advance
  split <;> rfl
@[simp] theorem advance_xmm (n : Nat) (s : State) : (advance n s).xmm = s.xmm := by
  unfold advance
  split <;> rfl
@[simp] theorem advance_mxcsr (n : Nat) (s : State) : (advance n s).mxcsr = s.mxcsr := by
  unfold advance
  split <;> rfl
@[simp] theorem advance_mem (n : Nat) (s : State) : (advance n s).mem = s.mem := by
  unfold advance
  split <;> rfl
@[simp] theorem advance_sb (n : Nat) (s : State) : (advance n s).sb = s.sb := by
  unfold advance
  split <;> rfl
@[simp] theorem advance_raised (n : Nat) (s : State) : (advance n s).raised = s.raised := by
  unfold advance
  split <;> rfl
@[simp] theorem advance_plat (n : Nat) (s : State) : (advance n s).plat = s.plat := by
  unfold advance
  split <;> rfl
@[simp] theorem advance_oracle (n : Nat) (s : State) : (advance n s).oracle = s.oracle := by
  unfold advance
  split <;> rfl
@[simp] theorem advance_stored (n : Nat) (s : State) : (advance n s).stored = s.stored := by
  unfold advance
  split <;> rfl

/-! ## Addresses depend on the platform alone -/

theorem State.phys_congr {s t : State} (h : t.plat = s.plat) (a : Nat) : t.phys a = s.phys a := by
  simp only [State.phys, State.frameOf, State.rangeOf, h]

theorem State.memType_congr {s t : State} (h : t.plat = s.plat) (a : Nat) : t.memType a = s.memType a := by
  simp only [State.memType, State.phys_congr h, h]

@[simp] theorem State.storeEach_phys (s : State) (nt : Bool) (a : Nat) (l : List (Nat × Byte)) (p : Nat) :
    (s.storeEach nt a l).phys p = s.phys p := State.phys_congr (State.storeEach_plat s nt a l) p

@[simp] theorem State.drainAt_phys (s : State) (i p : Nat) : (s.drainAt i).phys p = s.phys p :=
  State.phys_congr (State.drainAt_plat s i) p

@[simp] theorem State.deliver_phys (s : State) (p : Nat) : s.deliver.phys p = s.phys p :=
  State.phys_congr (State.deliver_plat s) p

/-! ## Registers read back -/

@[simp] theorem State.readGpr_writeGpr (s : State) (i j : Reg) (v : Dword) :
    (s.writeGpr i v).readGpr j = if i = j then v else s.readGpr j := by
  simp [State.readGpr, State.writeGpr, Vector.get_eq_getElem, Vector.getElem_set, BitVec.toNat_inj]

@[simp] theorem State.readXmm_writeXmm (s : State) (i j : Reg) (v : Xmm) :
    (s.writeXmm i v).readXmm j = if i = j then v else s.readXmm j := by
  simp [State.readXmm, State.writeXmm, Vector.get_eq_getElem, Vector.getElem_set, BitVec.toNat_inj]

@[simp] theorem State.readFpr_writeFpr (s : State) (i j : Reg) (v : Fpr) :
    (s.writeFpr i v).readFpr j = if i = j then v else s.readFpr j := by
  simp [State.readFpr, State.writeFpr, Vector.get_eq_getElem, Vector.getElem_set, BitVec.toNat_inj]

@[simp] theorem State.readFpr_touchX87 (s : State) (j : Reg) : s.touchX87.readFpr j = s.readFpr j := rfl

@[simp] theorem State.readMm_writeMm (s : State) (i j : Reg) (v : Qword) :
    (s.writeMm i v).readMm j = if i = j then v else s.readMm j := by
  unfold State.writeMm State.readMm
  simp only [State.readFpr_touchX87, State.readFpr_writeFpr]
  split
  · ext k hk
    have e : ((0xFFFF#16 ++ v : BitVec (16 + 64))).getLsbD k = v[k] := by
      rw [BitVec.getLsbD_append]; simp [hk]
    simpa [hk] using e
  · rfl

/-- An MMX write fills bits 79:64 with ones (10_state.md rule R35). -/
theorem State.readFpr_writeMm (s : State) (i : Reg) (v : Qword) : (s.writeMm i v).readFpr i = 0xFFFF#16 ++ v := by
  simp [State.writeMm]

end Sys2Proof.Machine
end

