-- ==== Sys2Proof/Laws/Checks.lean ====
section
/-! SUPPORT. The checks and the accesses: when each passes, and what each raises when it does not (60_exceptions.md
rules R663 to R672, 20_memory.md rule R83). -/

namespace Sys2Proof.Machine

/-! ## Results -/

@[simp] theorem res_ok_bind {α β : Type} (a : α) (f : α → Res β) : (Except.ok a >>= f : Res β) = f a := rfl

@[simp] theorem res_error_bind {α β : Type} (e : Stop) (f : α → Res β) :
    ((Except.error e : Res α) >>= f : Res β) = .error e := rfl

theorem res_bind_eq_ok {α β : Type} {x : Res α} {f : α → Res β} {b : β} :
    (x >>= f : Res β) = .ok b ↔ ∃ a, x = .ok a ∧ f a = .ok b := by
  cases x <;> simp

@[simp] theorem settle_ok (s t : State) : settle s (.ok t) = .next t := rfl

@[simp] theorem settle_raise (s : State) (x : Raise) : settle s (raise x) = .next (takeException s x) := rfl

@[simp] theorem settle_error_raise (s : State) (x : Raise) :
    settle s (.error (.raise x)) = .next (takeException s x) := rfl

@[simp] theorem settle_refuse (s : State) (r : Refusal) : settle s (.error (.refuse r)) = .refused r := rfl

/-- What a settled meaning can answer as a next state: the effect, or an exception taken. -/
theorem settle_next {s t : State} {r : Res State} (h : settle s r = .next t) :
    r = .ok t ∨ ∃ x, r = .error (.raise x) ∧ t = takeException s x := by
  unfold settle at h
  split at h
  · cases h; exact .inl rfl
  · next x => cases h; exact .inr ⟨x, rfl, rfl⟩
  · cases h

/-- A settled meaning never answers a fault. -/
theorem settle_not_fault (s : State) (r : Res State) (f : Fault) : settle s r ≠ .fault f := by
  unfold settle
  split <;> simp

/-! ## Availability -/

@[simp] theorem raiseIf_false (e : Exn) : raiseIf false e = .ok () := rfl

@[simp] theorem raiseIf_true (e : Exn) : raiseIf true e = raise (.plain e) := rfl

theorem raiseIf_eq_ok {b : Bool} {e : Exn} {u : Unit} : raiseIf b e = .ok u ↔ b = false := by
  cases b <;> simp [raise]

/-- Class M passes exactly when the feature is there, EM and TS are 0 and no x87 exception is pending. -/
theorem checkM_eq_ok {x : Ext} {s : State} {u : Unit} :
    checkM x s = .ok u ↔ s.plat.ext.has x = true ∧ s.em = false ∧ s.ts = false ∧ s.es = false := by
  simp only [checkM, res_bind_eq_ok, raiseIf_eq_ok, Bool.or_eq_false_iff, Bool.not_eq_false']
  constructor
  · rintro ⟨_, ⟨h1, h2⟩, _, h3, h4⟩; exact ⟨h1, h2, h3, h4⟩
  · rintro ⟨h1, h2, h3, h4⟩; exact ⟨(), ⟨h1, h2⟩, (), h3, h4⟩

/-- Class X passes exactly when the feature and OSFXSR are there and EM and TS are 0. -/
theorem checkX_eq_ok {x : Ext} {s : State} {u : Unit} :
    checkX x s = .ok u ↔ s.plat.ext.has x = true ∧ s.em = false ∧ s.osfxsr = true ∧ s.ts = false := by
  simp only [checkX, res_bind_eq_ok, raiseIf_eq_ok, Bool.or_eq_false_iff, Bool.not_eq_false']
  constructor
  · rintro ⟨_, ⟨⟨h1, h2⟩, h3⟩, h4⟩; exact ⟨h1, h2, h3, h4⟩
  · rintro ⟨h1, h2, h3, h4⟩; exact ⟨(), ⟨⟨h1, h2⟩, h3⟩, h4⟩

theorem checkXM_eq_ok {x : Ext} {s : State} {u : Unit} :
    checkXM x s = .ok u ↔
      (s.plat.ext.has x = true ∧ s.em = false ∧ s.osfxsr = true ∧ s.ts = false) ∧ s.es = false := by
  simp only [checkXM, res_bind_eq_ok, raiseIf_eq_ok, checkX_eq_ok]
  constructor
  · rintro ⟨_, h1, h2⟩; exact ⟨h1, h2⟩
  · rintro ⟨h1, h2⟩; exact ⟨(), h1, h2⟩

theorem checkFX_eq_ok {s : State} {u : Unit} :
    checkFX s = .ok u ↔ s.plat.ext.has .sse = true ∧ s.ts = false ∧ s.em = false := by
  simp only [checkFX, res_bind_eq_ok, raiseIf_eq_ok, Bool.or_eq_false_iff, Bool.not_eq_false']
  constructor
  · rintro ⟨_, h1, h2⟩; exact ⟨h1, h2⟩
  · rintro ⟨h1, h2⟩; exact ⟨(), h1, h2⟩

theorem checkH_eq_ok {x : Ext} {s : State} {u : Unit} : checkH x s = .ok u ↔ s.plat.ext.has x = true := by
  simp [checkH, raiseIf_eq_ok]

/-! ## Accesses -/

/-- Paging lets a byte be accessed exactly when its page, if a range holds it, is present and gives the right (log 18). -/
theorem pageFault_eq_none {s : State} {k : AccessKind} {a : Nat} :
    s.pageFault k a = none ↔ ∀ r, s.rangeOf (a / 4096) = some r → r.present = true ∧ (s.cpl, k) ∈ r.rights := by
  unfold State.pageFault
  cases h : s.rangeOf (a / 4096) with
  | none => simp
  | some r => by_cases h1 : r.present = true <;> by_cases h2 : (s.cpl, k) ∈ r.rights <;> simp [h1, h2]

/-- The lowest faulting byte is none exactly when no byte faults. -/
theorem firstPageFault_eq_none {s : State} {k : AccessKind} {a : Nat} {offs : List Nat} :
    s.firstPageFault k a offs = none ↔ ∀ o ∈ offs, s.pageFault k ((a + o) % 0x100000000) = none := by
  simp [State.firstPageFault, List.findSome?_eq_none_iff]

/-- When an access passes, and the address it gives (R83). -/
theorem checkBytes_eq_ok {s : State} {w : Bool} {al : Align} {seg : Seg} {ea : Dword} {offs : List Nat} {a : Nat} :
    s.checkBytes w al seg ea offs = .ok a ↔
      a = s.linear seg ea ∧ (al = .must16 → a % 16 = 0) ∧
        (∀ o ∈ offs, (s.segment seg).forbids w = false ∧ (s.segment seg).outside (ea.toNat + o) = false) ∧
        (∀ o ∈ offs, s.pageFault (if w then .write else .read) ((a + o) % 0x100000000) = none) ∧
        (al = .checked → s.acEnabled = true → a % offs.length = 0) ∧
        (∀ o ∈ offs, a + o < 0x100000000 ∧ s.memType (a + o) = .writeBack) := by
  unfold State.checkBytes
  simp only [raise]
  constructor
  · intro h
    split at h
    · cases h
    · next h1 =>
      split at h
      · cases h
      · next h2 =>
        split at h
        · cases h
        · next h3 =>
          split at h
          · cases h
          · next h4 =>
            split at h
            · cases h
            · next h5 =>
              split at h
              · cases h
              next h6 =>
              cases h
              simp only [List.any_eq_true, Bool.or_eq_true, not_exists, not_and, not_or, Bool.not_eq_true] at h2
              simp only [List.any_eq_true, decide_eq_true_eq, not_exists, not_and, Nat.not_le] at h5
              simp only [List.any_eq_true, decide_eq_true_eq, not_exists, not_and, Decidable.not_not] at h6
              refine ⟨rfl, fun h => ?_, h2, firstPageFault_eq_none.mp h3, fun h h' => ?_, fun o ho => ⟨h5 o ho, h6 o ho⟩⟩
              · by_contra hc; exact h1 ⟨h, hc⟩
              · by_contra hc; exact h4 ⟨h, h', hc⟩
  · rintro ⟨rfl, h1, h2, h4, h5, h6⟩
    have e1 : ¬ (al = .must16 ∧ s.linear seg ea % 16 ≠ 0) := fun h => h.2 (h1 h.1)
    have e2 : (offs.any fun o => (s.segment seg).forbids w || (s.segment seg).outside (ea.toNat + o)) = false := by
      simpa only [List.any_eq_false, Bool.or_eq_true, not_or, Bool.not_eq_true] using h2
    have e4 : ¬ (al = .checked ∧ s.acEnabled = true ∧ s.linear seg ea % offs.length ≠ 0) :=
      fun h => h.2.2 (h5 h.1 h.2.1)
    have e5 : (offs.any fun o => decide (0x100000000 ≤ s.linear seg ea + o)) = false := by
      simp only [List.any_eq_false, decide_eq_true_eq, Nat.not_le]; exact fun o ho => (h6 o ho).1
    have e6 : (offs.any fun o => decide (s.memType (s.linear seg ea + o) ≠ .writeBack)) = false := by
      simp only [List.any_eq_false, decide_eq_true_eq, Decidable.not_not]; exact fun o ho => (h6 o ho).2
    simp only [e1, e2, firstPageFault_eq_none.mpr h4, e4, e5, e6, if_false, Bool.false_eq_true]

theorem load_eq_ok {s : State} {al : Align} {m : MemOp} {w : Nat} {v : BitVec w} :
    s.load al m w = .ok v ↔
      ∃ a, s.checkAccess false al m (w / 8) = .ok a ∧ v = ofBytes w (s.bytes a (w / 8)) := by
  simp only [State.load, res_bind_eq_ok]
  constructor
  · rintro ⟨a, h, h'⟩; cases h'; exact ⟨a, h, rfl⟩
  · rintro ⟨a, h, rfl⟩; exact ⟨a, h, rfl⟩

theorem store_eq_ok {s t : State} {w : Nat} {nt : Bool} {al : Align} {m : MemOp} {v : BitVec w} :
    s.store nt al m v = .ok t ↔
      ∃ a, s.checkAccess true al m (w / 8) = .ok a ∧ t = s.storeBytes nt a (toBytes (w / 8) v) := by
  simp only [State.store, res_bind_eq_ok]
  constructor
  · rintro ⟨a, h, h'⟩; cases h'; exact ⟨a, h, rfl⟩
  · rintro ⟨a, h, rfl⟩; exact ⟨a, h, rfl⟩

end Sys2Proof.Machine
end

