-- ==== Sys2Proof/Laws/Lanes.lean ====
section
/-! SUPPORT. Lanes of a built value: what `ofLanes` and `build` put in each lane (00_scope.md rule R11). -/

namespace Sys2Proof.Machine

/-- A bit of a value made of lanes: bit `j % w` of lane `j / w`. -/
theorem getLsbD_ofLanes {w k : Nat} (hw : 0 < w) (xs : List (BitVec w)) (j : Nat) :
    (ofLanes k xs).getLsbD j =
      (decide (j < k) && match xs[j / w]? with | some x => x.getLsbD (j % w) | none => false) := by
  induction xs generalizing j with
  | nil => simp [ofLanes]
  | cons x xs ih =>
    simp only [ofLanes, BitVec.getLsbD_or, BitVec.getLsbD_setWidth, BitVec.getLsbD_shiftLeft, ih]
    by_cases hj : j < w
    · have h0 : j / w = 0 := Nat.div_eq_of_lt hj
      have h1 : j % w = j := Nat.mod_eq_of_lt hj
      simp [hj, h0, h1]
    · have hge : w ≤ j := Nat.le_of_not_lt hj
      have h0 : j / w = (j - w) / w + 1 := by rw [Nat.div_eq_sub_div hw hge]
      have h1 : (j - w) % w = j % w := (Nat.mod_eq_sub_mod hge).symm
      have h2 : x.getLsbD j = false := BitVec.getLsbD_of_ge x j hge
      by_cases hk : j < k
      · have : j - w < k := by omega
        simp [hj, hk, h0, h1, h2, this]
      · simp [hk]

/-- A lane of a value made of lanes. -/
theorem lane_ofLanes {w k : Nat} (hw : 0 < w) (xs : List (BitVec w)) (i : Nat) (hi : w * i + w ≤ k) :
    lane w i (ofLanes k xs) = (xs[i]?).getD 0#w := by
  apply BitVec.eq_of_getLsbD_eq
  intro j hj
  have h0 : (w * i + j) / w = i := by
    rw [Nat.mul_add_div hw, Nat.div_eq_of_lt hj, Nat.add_zero]
  have h1 : (w * i + j) % w = j := by rw [Nat.mul_add_mod, Nat.mod_eq_of_lt hj]
  have h2 : w * i + j < k := by omega
  simp only [lane, BitVec.getLsbD_extractLsb', hj, decide_true, Bool.true_and, getLsbD_ofLanes hw, h0, h1, h2]
  cases xs[i]? <;> simp

/-- A lane of a built value is what it was built from. -/
theorem lane_build {w k i : Nat} (hw : 0 < w) (f : Nat → BitVec w) (hi : i < k / w) : lane w i (build k w f) = f i := by
  have hle : w * i + w ≤ k := by
    have := Nat.mul_le_mul_left w (Nat.succ_le_of_lt hi)
    have := Nat.mul_div_le k w
    rw [Nat.mul_succ] at *
    omega
  simp [build, lane_ofLanes hw _ _ hle, hi]

theorem lane_map2 {w k i : Nat} (hw : 0 < w) (f : BitVec w → BitVec w → BitVec w) (a b : BitVec k) (hi : i < k / w) :
    lane w i (map2 w f a b) = f (lane w i a) (lane w i b) := lane_build hw _ hi

theorem lane_map1 {w k i : Nat} (hw : 0 < w) (f : BitVec w → BitVec w) (a : BitVec k) (hi : i < k / w) :
    lane w i (map1 w f a) = f (lane w i a) := lane_build hw _ hi

theorem lane_setLane {w k i j : Nat} (hw : 0 < w) (x : BitVec w) (v : BitVec k) (hj : j < k / w) :
    lane w j (setLane w i x v) = if j = i then x else lane w j v := lane_build hw _ hj

/-- A value is determined by its lanes. -/
theorem eq_of_lanes {w k : Nat} (hw : 0 < w) (hk : k % w = 0) (a b : BitVec k)
    (h : ∀ i < k / w, lane w i a = lane w i b) : a = b := by
  apply BitVec.eq_of_getLsbD_eq
  intro j hj
  have hi : j / w < k / w := by
    rw [Nat.div_lt_iff_lt_mul hw, Nat.div_mul_cancel (Nat.dvd_of_mod_eq_zero hk)]
    exact hj
  have hm : j % w < w := Nat.mod_lt _ hw
  have := congrArg (fun x => x.getLsbD (j % w)) (h _ hi)
  simpa [lane, hm, Nat.div_add_mod] using this

end Sys2Proof.Machine
end

