-- ==== Sys2Proof/Laws/Memory.lean ====
section
/-! SUPPORT. Laws of shared memory and of the store buffer: read after write, the canonical form, and what the
processor reads through its pending stores (20_memory.md rules R80, R91, R96). -/

namespace Sys2Proof.Machine

/-! ## Shared memory -/

theorem Memory.read_cons_self (a : Nat) (b : Byte) (m : List Host.Cell) (h : Memory.read m a = unlistedByte) :
    Memory.read (Memory.cons a b m) a = b := by
  unfold Memory.cons
  split
  · simp_all
  · simp [Memory.read]

theorem Memory.read_cons_other {a x : Nat} (b : Byte) (m : List Host.Cell) (h : a ≠ x) :
    Memory.read (Memory.cons a b m) x = Memory.read m x := by
  unfold Memory.cons
  split
  · rfl
  · simp [Memory.read, h]

/-- Below the first cell of a canonical memory nothing is listed. -/
theorem Memory.read_below {lo x : Nat} {m : List Host.Cell} (h : Memory.wfFrom lo m = true) (hx : x < lo) :
    Memory.read m x = unlistedByte := by
  induction m generalizing lo with
  | nil => rfl
  | cons c m ih =>
    obtain ⟨k, b⟩ := c
    simp only [Memory.wfFrom, Bool.and_eq_true, decide_eq_true_eq] at h
    have hk : k ≠ x := by omega
    simp only [Memory.read, hk, if_false]
    exact ih h.2 (by omega)

/-- A byte read back after it is written. -/
theorem Memory.read_write_self {lo : Nat} {m : List Host.Cell} (a : Nat) (b : Byte) (h : Memory.wfFrom lo m = true) :
    Memory.read (Memory.write m a b) a = b := by
  induction m generalizing lo with
  | nil => exact Memory.read_cons_self a b [] rfl
  | cons c m ih =>
    obtain ⟨k, d⟩ := c
    have hw := h
    simp only [Memory.wfFrom, Bool.and_eq_true, decide_eq_true_eq] at h
    unfold Memory.write
    split
    · next hlt => simp only [Memory.read, Nat.ne_of_lt hlt, if_false]; exact ih h.2
    · split
      · next heq => subst heq; exact Memory.read_cons_self _ b m (Memory.read_below h.2 (by omega))
      · next hne =>
        refine Memory.read_cons_self a b _ (Memory.read_below (lo := k) ?_ (by omega))
        simp only [Memory.wfFrom, Bool.and_eq_true, decide_eq_true_eq]
        exact ⟨⟨Nat.le_refl k, h.1.2⟩, h.2⟩

/-- A write leaves every other byte alone. -/
theorem Memory.read_write_other {a x : Nat} (m : List Host.Cell) (b : Byte) (h : a ≠ x) :
    Memory.read (Memory.write m a b) x = Memory.read m x := by
  induction m with
  | nil => exact Memory.read_cons_other b [] h
  | cons c m ih =>
    obtain ⟨k, d⟩ := c
    unfold Memory.write
    split
    · simp only [Memory.read, ih]
    · split
      · next heq => subst heq; rw [Memory.read_cons_other b m h]; simp [Memory.read, h]
      · exact Memory.read_cons_other b _ h

theorem Memory.wfFrom_mono {lo hi : Nat} {m : List Host.Cell} (h : Memory.wfFrom hi m = true) (hl : lo ≤ hi) :
    Memory.wfFrom lo m = true := by
  cases m with
  | nil => rfl
  | cons c m =>
    simp only [Memory.wfFrom, Bool.and_eq_true, decide_eq_true_eq] at h ⊢
    exact ⟨⟨by omega, h.1.2⟩, h.2⟩

theorem Memory.wfFrom_cons {lo a : Nat} {b : Byte} {m : List Host.Cell} (ha : lo ≤ a)
    (h : Memory.wfFrom (a + 1) m = true) : Memory.wfFrom lo (Memory.cons a b m) = true := by
  unfold Memory.cons
  split
  · exact Memory.wfFrom_mono h (by omega)
  · simp_all [Memory.wfFrom]

theorem Memory.wfFrom_write {lo a : Nat} {b : Byte} {m : List Host.Cell} (ha : lo ≤ a)
    (h : Memory.wfFrom lo m = true) : Memory.wfFrom lo (Memory.write m a b) = true := by
  induction m generalizing lo with
  | nil => exact Memory.wfFrom_cons ha rfl
  | cons c m ih =>
    obtain ⟨k, d⟩ := c
    simp only [Memory.wfFrom, Bool.and_eq_true, decide_eq_true_eq] at h
    unfold Memory.write
    split
    · next hlt =>
      simp only [Memory.wfFrom, Bool.and_eq_true, decide_eq_true_eq]
      exact ⟨h.1, ih (by omega) h.2⟩
    · split
      · next heq => subst heq; exact Memory.wfFrom_cons ha h.2
      · next hne =>
        refine Memory.wfFrom_cons ha ?_
        simp only [Memory.wfFrom, Bool.and_eq_true, decide_eq_true_eq]
        exact ⟨⟨by omega, h.1.2⟩, h.2⟩

/-- Writing a byte keeps the canonical form. -/
theorem Memory.wf_write {m : List Host.Cell} (a : Nat) (b : Byte) (h : Memory.wf m = true) :
    Memory.wf (Memory.write m a b) = true :=
  Memory.wfFrom_write (Nat.zero_le a) h

/-- Writing bytes keeps the canonical form. -/
theorem Memory.wf_writeBytes {m : List Host.Cell} (a : Nat) (bs : List Byte) (h : Memory.wf m = true) :
    Memory.wf (Memory.writeBytes m a bs) = true := by
  induction bs generalizing m a with
  | nil => exact h
  | cons b bs ih => exact ih (a + 1) (Memory.wf_write a b h)

/-- Draining an entry keeps the canonical form. -/
theorem Memory.wf_apply {m : List Host.Cell} (e : SbEntry) (h : Memory.wf m = true) : Memory.wf (e.apply m) = true := by
  cases e with
  | store nt a bs => exact Memory.wf_writeBytes a bs h
  | sf => exact h

/-- What bytes written leave alone, and what they leave behind. -/
theorem Memory.read_writeBytes {m : List Host.Cell} (a x : Nat) (bs : List Byte) (h : Memory.wf m = true) :
    Memory.read (Memory.writeBytes m a bs) x =
      if a ≤ x then (match bs[x - a]? with | some b => b | none => Memory.read m x) else Memory.read m x := by
  induction bs generalizing m a with
  | nil => simp [Memory.writeBytes]
  | cons b bs ih =>
    rw [Memory.writeBytes, ih (a + 1) (Memory.wf_write a b h)]
    by_cases hx : a = x
    · subst hx
      simp [Memory.read_write_self a b h]
    · rw [Memory.read_write_other m b hx]
      by_cases hlt : a + 1 ≤ x
      · have : x - a = (x - (a + 1)) + 1 := by omega
        have ha : a ≤ x := by omega
        simp [hlt, ha, this]
      · have ha : ¬ a ≤ x := by omega
        simp [hlt, ha]

/-- The memory of the reset state is canonical. -/
theorem Memory.wf_reset : Memory.wf State.reset.mem = true := rfl

/-! ## The store buffer -/

theorem sbLookup_append (xs ys : List SbEntry) (a : Nat) :
    sbLookup (xs ++ ys) a = match sbLookup ys a with | some b => some b | none => sbLookup xs a := by
  induction xs with
  | nil => simp only [List.nil_append, sbLookup]; cases sbLookup ys a <;> rfl
  | cons x xs ih =>
    simp only [List.cons_append, sbLookup, ih]
    cases sbLookup ys a <;> rfl

/-! ## Linear and physical addresses (R94) -/

theorem State.phys_lt (s : State) (a : Nat) : s.phys a < 0x100000000 := by
  have : s.frameOf (a / 4096) < 0x100000 := Nat.mod_lt _ (by omega)
  unfold State.phys
  omega

theorem State.phys_mod (s : State) (a : Nat) : s.phys a % 4096 = a % 4096 := by
  unfold State.phys
  omega

/-- Within a page physical addresses follow linear ones. -/
theorem State.phys_add (s : State) {a i : Nat} (h : a % 4096 + i < 4096) : s.phys (a + i) = s.phys a + i := by
  have h1 : (a + i) / 4096 = a / 4096 := by omega
  have h2 : (a + i) % 4096 = a % 4096 + i := by omega
  simp only [State.phys, h1, h2]
  omega

/-- Different bytes less than a page apart lie in different places, whatever the pages are mapped to. -/
theorem State.phys_ne (s : State) {x y : Nat} (h : x ≠ y) (h1 : x < y + 4096) (h2 : y < x + 4096) :
    s.phys x ≠ s.phys y := by
  intro e
  have := s.phys_mod x
  have := s.phys_mod y
  omega

/-- An aligned group of up to 8 bytes lies in one page. -/
theorem group_in_page {n a i : Nat} (hn : ((n = 1 ∨ n = 2) ∨ n = 4) ∨ n = 8) (ha : a % n = 0) (hi : i < n) :
    a % 4096 + i < 4096 := by
  rcases hn with ((rfl | rfl) | rfl) | rfl <;> omega

/-! ## Stores -/

theorem SbEntry.byteAt_single (nt : Bool) (a p : Nat) (b : Byte) :
    (SbEntry.store nt a [b]).byteAt p = if p = a then some b else none := by
  unfold SbEntry.byteAt
  by_cases h : p = a
  · simp [h]
  · by_cases hle : a ≤ p
    · have : ¬ p - a < 1 := by omega
      simp [h, hle]
      omega
    · simp [h, hle]

/-- Single bytes stored at places `g 0`, `g 1`, …: no other place is covered. -/
theorem sbLookup_singles_other {nt : Bool} {g : Nat → Nat} {p : Nat} {bs : List Byte}
    (h : ∀ i, i < bs.length → p ≠ g i) : sbLookup (bs.mapIdx fun i b => SbEntry.store nt (g i) [b]) p = none := by
  induction bs generalizing g with
  | nil => rfl
  | cons b bs ih =>
    simp only [List.mapIdx_cons, sbLookup]
    rw [ih (g := fun i => g (i + 1)) fun i hi => h (i + 1) (by simpa using hi)]
    simp [SbEntry.byteAt_single, h 0 (by simp)]

/-- Each of them is read back, where the places differ. -/
theorem sbLookup_singles_self {nt : Bool} {g : Nat → Nat} {bs : List Byte} {i : Nat}
    (h : ∀ j k, j < bs.length → k < bs.length → j ≠ k → g j ≠ g k) (hi : i < bs.length) :
    sbLookup (bs.mapIdx fun i b => SbEntry.store nt (g i) [b]) (g i) = some bs[i] := by
  induction bs generalizing g i with
  | nil => cases hi
  | cons b bs ih =>
    simp only [List.mapIdx_cons, sbLookup]
    cases i with
    | zero =>
      rw [sbLookup_singles_other (g := fun i => g (i + 1)) fun j hj =>
        h 0 (j + 1) (by simp) (by simpa using hj) (by omega)]
      simp [SbEntry.byteAt_single]
    | succ i =>
      have hi' : i < bs.length := by simpa using hi
      rw [ih (g := fun i => g (i + 1)) (fun j k hj hk hjk =>
        h (j + 1) (k + 1) (by simpa using hj) (by simpa using hk) (by omega)) hi']
      simp

/-- A store's groups cover no other byte than its own (R91). -/
theorem sbLookup_storeGroups_other {s : State} {nt : Bool} {a p : Nat} {bs : List Byte}
    (h : ∀ i, i < bs.length → p ≠ s.phys (a + i)) : sbLookup (s.storeGroups nt a bs) p = none := by
  unfold State.storeGroups
  simp only
  split
  · next hw =>
    simp only [Bool.and_eq_true, Bool.or_eq_true, beq_iff_eq] at hw
    simp only [sbLookup, SbEntry.byteAt]
    split
    · next hle =>
      rw [List.getElem?_eq_none]
      by_contra hlt
      have hlt' : p - s.phys a < bs.length := by omega
      have hp := h (p - s.phys a) hlt'
      rw [s.phys_add (group_in_page hw.1 hw.2 hlt')] at hp
      omega
    · rfl
  · split
    · next h16 =>
      simp only [Bool.and_eq_true, beq_iff_eq] at h16
      have e8 : s.phys (a + 8) = s.phys a + 8 := s.phys_add (by omega)
      have hp : ∀ i, i < 16 → p ≠ s.phys a + i := fun i hi => by
        have := h i (by omega)
        rwa [s.phys_add (a := a) (i := i) (by omega)] at this
      have e1 : (if s.phys (a + 8) ≤ p then (bs.drop 8)[p - s.phys (a + 8)]? else none) = none := by
        split
        · rw [List.getElem?_eq_none]
          by_contra hlt
          simp only [List.length_drop] at hlt
          exact hp (p - s.phys a) (by omega) (by omega)
        · rfl
      have e2 : (if s.phys a ≤ p then (bs.take 8)[p - s.phys a]? else none) = none := by
        split
        · rw [List.getElem?_eq_none]
          by_contra hlt
          simp only [List.length_take] at hlt
          exact hp (p - s.phys a) (by omega) (by omega)
        · rfl
      simp only [sbLookup, SbEntry.byteAt, e1, e2]
    · exact sbLookup_singles_other (g := fun i => s.phys (a + i)) h

/-- A store's groups together hold each of its bytes at its place (R91). -/
theorem sbLookup_storeGroups_self {s : State} {nt : Bool} {a i : Nat} {bs : List Byte} (hl : bs.length ≤ 4096)
    (hi : i < bs.length) : sbLookup (s.storeGroups nt a bs) (s.phys (a + i)) = some bs[i] := by
  unfold State.storeGroups
  simp only
  split
  · next hw =>
    simp only [Bool.and_eq_true, Bool.or_eq_true, beq_iff_eq] at hw
    rw [s.phys_add (group_in_page hw.1 hw.2 hi)]
    simp [sbLookup, SbEntry.byteAt, hi]
  · split
    · next h16 =>
      simp only [Bool.and_eq_true, beq_iff_eq] at h16
      have e8 : s.phys (a + 8) = s.phys a + 8 := s.phys_add (by omega)
      have ei : s.phys (a + i) = s.phys a + i := s.phys_add (by omega)
      simp only [sbLookup, SbEntry.byteAt, e8, ei]
      by_cases h8 : 8 ≤ i
      · have e : 8 + (s.phys a + i - (s.phys a + 8)) = i := by omega
        simp [h8, List.getElem?_drop, e, hi]
      · have hlt : i < 8 := by omega
        simp [h8, hlt, hi]
    · exact sbLookup_singles_self (g := fun i => s.phys (a + i))
        (fun j k hj hk hjk => s.phys_ne (by omega) (by omega) (by omega)) hi

/-- The processor reads its own store at once (R96 (b)). -/
theorem State.byte_storeBytes_self (s : State) (nt : Bool) {a i : Nat} {bs : List Byte} (hl : bs.length ≤ 4096)
    (hi : i < bs.length) : (s.storeBytes nt a bs).byte (a + i) = bs[i] := by
  have hp : (s.storeBytes nt a bs).phys (a + i) = s.phys (a + i) := rfl
  unfold State.byte State.physByte
  rw [hp]
  simp [State.storeBytes, sbLookup_append, sbLookup_storeGroups_self hl hi]

/-- Every byte that lies elsewhere reads as before (R96 (b)). -/
theorem State.byte_storeBytes_other (s : State) (nt : Bool) {a x : Nat} {bs : List Byte}
    (h : ∀ i, i < bs.length → s.phys x ≠ s.phys (a + i)) : (s.storeBytes nt a bs).byte x = s.byte x := by
  have hp : (s.storeBytes nt a bs).phys x = s.phys x := rfl
  unfold State.byte State.physByte
  rw [hp]
  simp [State.storeBytes, sbLookup_append, sbLookup_storeGroups_other h]

/-- A byte depends on memory, the buffer and the platform alone. -/
theorem State.byte_congr {s t : State} (hm : t.mem = s.mem) (hb : t.sb = s.sb) (hp : t.plat = s.plat) (a : Nat) :
    t.byte a = s.byte a := by
  simp only [State.byte, State.physByte, State.phys_congr hp, hm, hb]

/-- Bytes stored one at a time leave every byte alone that lies elsewhere. -/
theorem State.byte_storeEach_other (s : State) (nt : Bool) (a x : Nat) (l : List (Nat × Byte))
    (h : ∀ o ∈ l, s.phys x ≠ s.phys (a + o.1)) : (s.storeEach nt a l).byte x = s.byte x := by
  unfold State.storeEach
  induction l generalizing s with
  | nil => rfl
  | cons o os ih =>
    simp only [List.foldl_cons]
    refine (ih (s.storeBytes nt (a + o.1) [o.2]) fun o' ho' => h o' (List.mem_cons_of_mem _ ho')).trans ?_
    refine State.byte_storeBytes_other s nt fun i hi => ?_
    have : i = 0 := by simpa using hi
    subst this
    exact h o (List.mem_cons_self ..)

/-- Each of them is read back, where the offsets differ and lie within a page's length. -/
theorem State.byte_storeEach_self (s : State) (nt : Bool) (a : Nat) (l : List (Nat × Byte))
    (hd : (l.map Prod.fst).Nodup) (hl : ∀ o ∈ l, o.1 < 4096) {o : Nat × Byte} (ho : o ∈ l) :
    (s.storeEach nt a l).byte (a + o.1) = o.2 := by
  unfold State.storeEach
  induction l generalizing s with
  | nil => cases ho
  | cons p ps ih =>
    simp only [List.map_cons, List.nodup_cons] at hd
    simp only [List.foldl_cons]
    rcases List.mem_cons.mp ho with rfl | hmem
    · have hs : ((s.storeBytes nt (a + o.1) [o.2]).storeEach nt a ps).byte (a + o.1) =
          (s.storeBytes nt (a + o.1) [o.2]).byte (a + o.1) := by
        refine State.byte_storeEach_other _ nt a _ ps fun q hq => ?_
        have hne : q.1 ≠ o.1 := fun e => hd.1 (e ▸ List.mem_map_of_mem hq)
        have := hl q (List.mem_cons_of_mem _ hq)
        have := hl o (List.mem_cons_self ..)
        exact State.phys_ne _ (by omega) (by omega) (by omega)
      exact hs.trans (State.byte_storeBytes_self s nt (i := 0) (bs := [o.2]) (by simp) (by simp))
    · exact ih _ hd.2 (fun q hq => hl q (List.mem_cons_of_mem _ hq)) hmem

/-- Markers cover nothing, so removing those that stand first changes no byte. -/
theorem sbLookup_dropFences (sb : List SbEntry) (a : Nat) : sbLookup (dropFences sb) a = sbLookup sb a := by
  unfold dropFences
  induction sb with
  | nil => rfl
  | cons e es ih =>
    cases e with
    | store nt b bs => rfl
    | sf =>
      simp only [List.dropWhile, SbEntry.isFence, sbLookup, SbEntry.byteAt, ih]
      cases sbLookup es a <;> rfl

/-- After dropping, no marker stands first. -/
theorem fenceNotFirst_dropFences (sb : List SbEntry) : fenceNotFirst (dropFences sb) = true := by
  unfold dropFences
  induction sb with
  | nil => rfl
  | cons e es ih =>
    cases e with
    | store nt b bs => rfl
    | sf => simpa [List.dropWhile, SbEntry.isFence] using ih

/-! ## Little-endian bytes (R81) -/

theorem leNat_lt (bs : List Byte) : leNat bs < 256 ^ bs.length := by
  induction bs with
  | nil => simp [leNat]
  | cons b bs ih =>
    have := b.isLt
    simp only [leNat, List.length_cons, Nat.pow_succ]
    omega

@[simp] theorem toBytes_length {w : Nat} (n : Nat) (v : BitVec w) : (toBytes n v).length = n := by simp [toBytes]

@[simp] theorem State.bytes_length (s : State) (a n : Nat) : (s.bytes a n).length = n := by simp [State.bytes]

theorem toBytes_getElem? {w : Nat} (n i : Nat) (v : BitVec w) (h : i < n) :
    (toBytes n v)[i]? = some (v.extractLsb' (8 * i) 8) := by
  simp [toBytes, h]

/-- Bit `j` of the number that bytes spell. -/
theorem leNat_testBit (bs : List Byte) (j : Nat) :
    (leNat bs).testBit j = match bs[j / 8]? with | some b => b.getLsbD (j % 8) | none => false := by
  induction bs generalizing j with
  | nil => simp [leNat]
  | cons b bs ih =>
    have hb := b.isLt
    have e : leNat (b :: bs) = 2 ^ 8 * leNat bs + b.toNat := by simp [leNat]; omega
    rw [e, Nat.testBit_two_pow_mul_add _ hb]
    by_cases hj : j < 8
    · have h0 : j / 8 = 0 := by omega
      have h1 : j % 8 = j := by omega
      simp [hj, h0, h1, BitVec.getLsbD]
    · have h0 : j / 8 = (j - 8) / 8 + 1 := by omega
      have h1 : (j - 8) % 8 = j % 8 := by omega
      simp only [hj, if_false, ih, h0, List.getElem?_cons_succ, h1]

/-- The value of `w` bits whose bytes are given (R81). -/
theorem ofBytes_eq {w : Nat} (v : BitVec w) (bs : List Byte) (hw : w = 8 * bs.length)
    (h : ∀ i (hi : i < bs.length), v.extractLsb' (8 * i) 8 = bs[i]) : ofBytes w bs = v := by
  apply BitVec.eq_of_getLsbD_eq
  intro j hj
  have hlt : j / 8 < bs.length := by omega
  have := h (j / 8) hlt
  simp only [ofBytes, BitVec.getLsbD_ofNat, hj, leNat_testBit, List.getElem?_eq_getElem hlt, ← this]
  have e : 8 * (j / 8) + j % 8 = j := by omega
  have : j % 8 < 8 := by omega
  simp [this, e]

end Sys2Proof.Machine
end

