-- ==== Sys2Proof/Laws/PerInstr.lean ====
section
/-! SUPPORT. One statement for every instruction: its encoding is 2 to 11 bytes long, so that it lies inside the 15 bytes
that the decoder is given (30_encoding.md rule R141). -/

namespace Sys2Proof

theorem segPrefix_length (seg dflt : Seg) : (segPrefix seg dflt).length ≤ 1 := by unfold segPrefix; split <;> simp

theorem Pfx.bytes_length (p : Pfx) : p.bytes.length ≤ 1 := by cases p <;> simp [Pfx.bytes]

theorem encodeMem_length (reg : Reg) (m : MemOp) : 5 ≤ (encodeMem reg m).length ∧ (encodeMem reg m).length ≤ 6 := by
  unfold encodeMem
  split <;> (try split) <;> simp [dispBytes]

theorem encReg_length (p : Pfx) (op : Byte) (reg rm : Reg) :
    3 ≤ (encReg p op reg rm).length ∧ (encReg p op reg rm).length ≤ 4 := by
  have := p.bytes_length
  simp only [encReg, List.length_append, List.length_cons, List.length_nil]
  omega

theorem encMem_length (p : Pfx) (op : Byte) (reg : Reg) (m : MemOp) :
    3 ≤ (encMem p op reg m).length ∧ (encMem p op reg m).length ≤ 10 := by
  have := p.bytes_length
  have := segPrefix_length m.seg (defaultSeg m.base)
  have := encodeMem_length reg m
  simp only [encMem, List.length_append, List.length_cons, List.length_nil]
  omega

theorem encRm_length (p : Pfx) (op : Byte) (reg : Reg) (rm : RM) :
    3 ≤ (encRm p op reg rm).length ∧ (encRm p op reg rm).length ≤ 10 := by
  cases rm with
  | reg r => have := encReg_length p op reg r; simp only [encRm]; omega
  | mem m => exact encMem_length p op reg m

theorem encMasked_length (p : Pfx) (op : Byte) (reg rm : Reg) (seg : Seg) :
    3 ≤ (encMasked p op reg rm seg).length ∧ (encMasked p op reg rm seg).length ≤ 10 := by
  have := segPrefix_length seg .ds
  have := encReg_length p op reg rm
  simp only [encMasked, List.length_append]
  omega

/-- An instruction's encoding is 2 to 11 bytes long. -/
def Laws.EncodeLength.Statement (i : Instr) : Prop := 2 ≤ (encode i).length ∧ (encode i).length ≤ 11

theorem Laws.between {n : Nat} (h : 3 ≤ n ∧ n ≤ 10) : 2 ≤ n ∧ n ≤ 11 := by omega

theorem Laws.regBetween {n : Nat} (h : 3 ≤ n ∧ n ≤ 4) : 3 ≤ n ∧ n ≤ 10 := by omega

theorem Laws.betweenImm {bs : List Byte} {imm : Byte} (h : 3 ≤ bs.length ∧ bs.length ≤ 10) :
    2 ≤ (bs ++ [imm]).length ∧ (bs ++ [imm]).length ≤ 11 := by simp; omega

theorem Laws.EncodeLength.movdMm (dir : Dir) (reg : Reg) (rm : RM) : Statement (.movdMm dir reg rm) := by
  cases dir <;> exact Laws.between (encRm_length ..)
theorem Laws.EncodeLength.movqMm (dir : Dir) (reg : Reg) (rm : RM) : Statement (.movqMm dir reg rm) := by
  cases dir <;> exact Laws.between (encRm_length ..)
theorem Laws.EncodeLength.paddbMm (reg : Reg) (rm : RM) : Statement (.paddbMm reg rm) :=
  Laws.between (encRm_length ..)
theorem Laws.EncodeLength.paddwMm (reg : Reg) (rm : RM) : Statement (.paddwMm reg rm) :=
  Laws.between (encRm_length ..)
theorem Laws.EncodeLength.padddMm (reg : Reg) (rm : RM) : Statement (.padddMm reg rm) :=
  Laws.between (encRm_length ..)
theorem Laws.EncodeLength.paddsbMm (reg : Reg) (rm : RM) : Statement (.paddsbMm reg rm) :=
  Laws.between (encRm_length ..)
theorem Laws.EncodeLength.paddswMm (reg : Reg) (rm : RM) : Statement (.paddswMm reg rm) :=
  Laws.between (encRm_length ..)
theorem Laws.EncodeLength.paddusbMm (reg : Reg) (rm : RM) : Statement (.paddusbMm reg rm) :=
  Laws.between (encRm_length ..)
theorem Laws.EncodeLength.padduswMm (reg : Reg) (rm : RM) : Statement (.padduswMm reg rm) :=
  Laws.between (encRm_length ..)
theorem Laws.EncodeLength.psubbMm (reg : Reg) (rm : RM) : Statement (.psubbMm reg rm) :=
  Laws.between (encRm_length ..)
theorem Laws.EncodeLength.psubwMm (reg : Reg) (rm : RM) : Statement (.psubwMm reg rm) :=
  Laws.between (encRm_length ..)
theorem Laws.EncodeLength.psubdMm (reg : Reg) (rm : RM) : Statement (.psubdMm reg rm) :=
  Laws.between (encRm_length ..)
theorem Laws.EncodeLength.psubsbMm (reg : Reg) (rm : RM) : Statement (.psubsbMm reg rm) :=
  Laws.between (encRm_length ..)
theorem Laws.EncodeLength.psubswMm (reg : Reg) (rm : RM) : Statement (.psubswMm reg rm) :=
  Laws.between (encRm_length ..)
theorem Laws.EncodeLength.psubusbMm (reg : Reg) (rm : RM) : Statement (.psubusbMm reg rm) :=
  Laws.between (encRm_length ..)
theorem Laws.EncodeLength.psubuswMm (reg : Reg) (rm : RM) : Statement (.psubuswMm reg rm) :=
  Laws.between (encRm_length ..)
theorem Laws.EncodeLength.pmullwMm (reg : Reg) (rm : RM) : Statement (.pmullwMm reg rm) :=
  Laws.between (encRm_length ..)
theorem Laws.EncodeLength.pmulhwMm (reg : Reg) (rm : RM) : Statement (.pmulhwMm reg rm) :=
  Laws.between (encRm_length ..)
theorem Laws.EncodeLength.pmaddwdMm (reg : Reg) (rm : RM) : Statement (.pmaddwdMm reg rm) :=
  Laws.between (encRm_length ..)
theorem Laws.EncodeLength.pcmpeqbMm (reg : Reg) (rm : RM) : Statement (.pcmpeqbMm reg rm) :=
  Laws.between (encRm_length ..)
theorem Laws.EncodeLength.pcmpeqwMm (reg : Reg) (rm : RM) : Statement (.pcmpeqwMm reg rm) :=
  Laws.between (encRm_length ..)
theorem Laws.EncodeLength.pcmpeqdMm (reg : Reg) (rm : RM) : Statement (.pcmpeqdMm reg rm) :=
  Laws.between (encRm_length ..)
theorem Laws.EncodeLength.pcmpgtbMm (reg : Reg) (rm : RM) : Statement (.pcmpgtbMm reg rm) :=
  Laws.between (encRm_length ..)
theorem Laws.EncodeLength.pcmpgtwMm (reg : Reg) (rm : RM) : Statement (.pcmpgtwMm reg rm) :=
  Laws.between (encRm_length ..)
theorem Laws.EncodeLength.pcmpgtdMm (reg : Reg) (rm : RM) : Statement (.pcmpgtdMm reg rm) :=
  Laws.between (encRm_length ..)
theorem Laws.EncodeLength.packsswbMm (reg : Reg) (rm : RM) : Statement (.packsswbMm reg rm) :=
  Laws.between (encRm_length ..)
theorem Laws.EncodeLength.packssdwMm (reg : Reg) (rm : RM) : Statement (.packssdwMm reg rm) :=
  Laws.between (encRm_length ..)
theorem Laws.EncodeLength.packuswbMm (reg : Reg) (rm : RM) : Statement (.packuswbMm reg rm) :=
  Laws.between (encRm_length ..)
theorem Laws.EncodeLength.punpckhbwMm (reg : Reg) (rm : RM) : Statement (.punpckhbwMm reg rm) :=
  Laws.between (encRm_length ..)
theorem Laws.EncodeLength.punpckhwdMm (reg : Reg) (rm : RM) : Statement (.punpckhwdMm reg rm) :=
  Laws.between (encRm_length ..)
theorem Laws.EncodeLength.punpckhdqMm (reg : Reg) (rm : RM) : Statement (.punpckhdqMm reg rm) :=
  Laws.between (encRm_length ..)
theorem Laws.EncodeLength.punpcklbwMm (reg : Reg) (rm : RM) : Statement (.punpcklbwMm reg rm) :=
  Laws.between (encRm_length ..)
theorem Laws.EncodeLength.punpcklwdMm (reg : Reg) (rm : RM) : Statement (.punpcklwdMm reg rm) :=
  Laws.between (encRm_length ..)
theorem Laws.EncodeLength.punpckldqMm (reg : Reg) (rm : RM) : Statement (.punpckldqMm reg rm) :=
  Laws.between (encRm_length ..)
theorem Laws.EncodeLength.pandMm (reg : Reg) (rm : RM) : Statement (.pandMm reg rm) := Laws.between (encRm_length ..)
theorem Laws.EncodeLength.pandnMm (reg : Reg) (rm : RM) : Statement (.pandnMm reg rm) :=
  Laws.between (encRm_length ..)
theorem Laws.EncodeLength.porMm (reg : Reg) (rm : RM) : Statement (.porMm reg rm) := Laws.between (encRm_length ..)
theorem Laws.EncodeLength.pxorMm (reg : Reg) (rm : RM) : Statement (.pxorMm reg rm) := Laws.between (encRm_length ..)
theorem Laws.EncodeLength.psllwMm (dst : Reg) (count : Count) : Statement (.psllwMm dst count) := by
  cases count
  · exact Laws.between (encRm_length ..)
  · exact Laws.betweenImm (Laws.regBetween (encReg_length ..))
theorem Laws.EncodeLength.pslldMm (dst : Reg) (count : Count) : Statement (.pslldMm dst count) := by
  cases count
  · exact Laws.between (encRm_length ..)
  · exact Laws.betweenImm (Laws.regBetween (encReg_length ..))
theorem Laws.EncodeLength.psllqMm (dst : Reg) (count : Count) : Statement (.psllqMm dst count) := by
  cases count
  · exact Laws.between (encRm_length ..)
  · exact Laws.betweenImm (Laws.regBetween (encReg_length ..))
theorem Laws.EncodeLength.psrlwMm (dst : Reg) (count : Count) : Statement (.psrlwMm dst count) := by
  cases count
  · exact Laws.between (encRm_length ..)
  · exact Laws.betweenImm (Laws.regBetween (encReg_length ..))
theorem Laws.EncodeLength.psrldMm (dst : Reg) (count : Count) : Statement (.psrldMm dst count) := by
  cases count
  · exact Laws.between (encRm_length ..)
  · exact Laws.betweenImm (Laws.regBetween (encReg_length ..))
theorem Laws.EncodeLength.psrlqMm (dst : Reg) (count : Count) : Statement (.psrlqMm dst count) := by
  cases count
  · exact Laws.between (encRm_length ..)
  · exact Laws.betweenImm (Laws.regBetween (encReg_length ..))
theorem Laws.EncodeLength.psrawMm (dst : Reg) (count : Count) : Statement (.psrawMm dst count) := by
  cases count
  · exact Laws.between (encRm_length ..)
  · exact Laws.betweenImm (Laws.regBetween (encReg_length ..))
theorem Laws.EncodeLength.psradMm (dst : Reg) (count : Count) : Statement (.psradMm dst count) := by
  cases count
  · exact Laws.between (encRm_length ..)
  · exact Laws.betweenImm (Laws.regBetween (encReg_length ..))
theorem Laws.EncodeLength.movaps (dir : Dir) (reg : Reg) (rm : RM) : Statement (.movaps dir reg rm) := by
  cases dir <;> exact Laws.between (encRm_length ..)
theorem Laws.EncodeLength.movups (dir : Dir) (reg : Reg) (rm : RM) : Statement (.movups dir reg rm) := by
  cases dir <;> exact Laws.between (encRm_length ..)
theorem Laws.EncodeLength.movss (dir : Dir) (reg : Reg) (rm : RM) : Statement (.movss dir reg rm) := by
  cases dir <;> exact Laws.between (encRm_length ..)
theorem Laws.EncodeLength.movlps (dir : Dir) (reg : Reg) (m : MemOp) : Statement (.movlps dir reg m) := by
  cases dir <;> exact Laws.between (encMem_length ..)
theorem Laws.EncodeLength.movhps (dir : Dir) (reg : Reg) (m : MemOp) : Statement (.movhps dir reg m) := by
  cases dir <;> exact Laws.between (encMem_length ..)
theorem Laws.EncodeLength.movhlps (reg rm : Reg) : Statement (.movhlps reg rm) :=
  Laws.between (Laws.regBetween (encReg_length ..))
theorem Laws.EncodeLength.movlhps (reg rm : Reg) : Statement (.movlhps reg rm) :=
  Laws.between (Laws.regBetween (encReg_length ..))
theorem Laws.EncodeLength.movmskps (reg rm : Reg) : Statement (.movmskps reg rm) :=
  Laws.between (Laws.regBetween (encReg_length ..))
theorem Laws.EncodeLength.addps (reg : Reg) (rm : RM) : Statement (.addps reg rm) := Laws.between (encRm_length ..)
theorem Laws.EncodeLength.addss (reg : Reg) (rm : RM) : Statement (.addss reg rm) := Laws.between (encRm_length ..)
theorem Laws.EncodeLength.subps (reg : Reg) (rm : RM) : Statement (.subps reg rm) := Laws.between (encRm_length ..)
theorem Laws.EncodeLength.subss (reg : Reg) (rm : RM) : Statement (.subss reg rm) := Laws.between (encRm_length ..)
theorem Laws.EncodeLength.mulps (reg : Reg) (rm : RM) : Statement (.mulps reg rm) := Laws.between (encRm_length ..)
theorem Laws.EncodeLength.mulss (reg : Reg) (rm : RM) : Statement (.mulss reg rm) := Laws.between (encRm_length ..)
theorem Laws.EncodeLength.divps (reg : Reg) (rm : RM) : Statement (.divps reg rm) := Laws.between (encRm_length ..)
theorem Laws.EncodeLength.divss (reg : Reg) (rm : RM) : Statement (.divss reg rm) := Laws.between (encRm_length ..)
theorem Laws.EncodeLength.maxps (reg : Reg) (rm : RM) : Statement (.maxps reg rm) := Laws.between (encRm_length ..)
theorem Laws.EncodeLength.maxss (reg : Reg) (rm : RM) : Statement (.maxss reg rm) := Laws.between (encRm_length ..)
theorem Laws.EncodeLength.minps (reg : Reg) (rm : RM) : Statement (.minps reg rm) := Laws.between (encRm_length ..)
theorem Laws.EncodeLength.minss (reg : Reg) (rm : RM) : Statement (.minss reg rm) := Laws.between (encRm_length ..)
theorem Laws.EncodeLength.sqrtps (reg : Reg) (rm : RM) : Statement (.sqrtps reg rm) := Laws.between (encRm_length ..)
theorem Laws.EncodeLength.sqrtss (reg : Reg) (rm : RM) : Statement (.sqrtss reg rm) := Laws.between (encRm_length ..)
theorem Laws.EncodeLength.rcpps (reg : Reg) (rm : RM) : Statement (.rcpps reg rm) := Laws.between (encRm_length ..)
theorem Laws.EncodeLength.rcpss (reg : Reg) (rm : RM) : Statement (.rcpss reg rm) := Laws.between (encRm_length ..)
theorem Laws.EncodeLength.rsqrtps (reg : Reg) (rm : RM) : Statement (.rsqrtps reg rm) :=
  Laws.between (encRm_length ..)
theorem Laws.EncodeLength.rsqrtss (reg : Reg) (rm : RM) : Statement (.rsqrtss reg rm) :=
  Laws.between (encRm_length ..)
theorem Laws.EncodeLength.cmpps (reg : Reg) (rm : RM) (pred : Pred) : Statement (.cmpps reg rm pred) :=
  Laws.betweenImm (encRm_length ..)
theorem Laws.EncodeLength.cmpss (reg : Reg) (rm : RM) (pred : Pred) : Statement (.cmpss reg rm pred) :=
  Laws.betweenImm (encRm_length ..)
theorem Laws.EncodeLength.comiss (reg : Reg) (rm : RM) : Statement (.comiss reg rm) := Laws.between (encRm_length ..)
theorem Laws.EncodeLength.ucomiss (reg : Reg) (rm : RM) : Statement (.ucomiss reg rm) :=
  Laws.between (encRm_length ..)
theorem Laws.EncodeLength.cvtpi2ps (reg : Reg) (rm : RM) : Statement (.cvtpi2ps reg rm) :=
  Laws.between (encRm_length ..)
theorem Laws.EncodeLength.cvtps2pi (reg : Reg) (rm : RM) : Statement (.cvtps2pi reg rm) :=
  Laws.between (encRm_length ..)
theorem Laws.EncodeLength.cvttps2pi (reg : Reg) (rm : RM) : Statement (.cvttps2pi reg rm) :=
  Laws.between (encRm_length ..)
theorem Laws.EncodeLength.cvtsi2ss (reg : Reg) (rm : RM) : Statement (.cvtsi2ss reg rm) :=
  Laws.between (encRm_length ..)
theorem Laws.EncodeLength.cvtss2si (reg : Reg) (rm : RM) : Statement (.cvtss2si reg rm) :=
  Laws.between (encRm_length ..)
theorem Laws.EncodeLength.cvttss2si (reg : Reg) (rm : RM) : Statement (.cvttss2si reg rm) :=
  Laws.between (encRm_length ..)
theorem Laws.EncodeLength.andps (reg : Reg) (rm : RM) : Statement (.andps reg rm) := Laws.between (encRm_length ..)
theorem Laws.EncodeLength.andnps (reg : Reg) (rm : RM) : Statement (.andnps reg rm) := Laws.between (encRm_length ..)
theorem Laws.EncodeLength.orps (reg : Reg) (rm : RM) : Statement (.orps reg rm) := Laws.between (encRm_length ..)
theorem Laws.EncodeLength.xorps (reg : Reg) (rm : RM) : Statement (.xorps reg rm) := Laws.between (encRm_length ..)
theorem Laws.EncodeLength.shufps (reg : Reg) (rm : RM) (imm : Imm8) : Statement (.shufps reg rm imm) :=
  Laws.betweenImm (encRm_length ..)
theorem Laws.EncodeLength.unpckhps (reg : Reg) (rm : RM) : Statement (.unpckhps reg rm) :=
  Laws.between (encRm_length ..)
theorem Laws.EncodeLength.unpcklps (reg : Reg) (rm : RM) : Statement (.unpcklps reg rm) :=
  Laws.between (encRm_length ..)
theorem Laws.EncodeLength.pavgbMm (reg : Reg) (rm : RM) : Statement (.pavgbMm reg rm) :=
  Laws.between (encRm_length ..)
theorem Laws.EncodeLength.pavgwMm (reg : Reg) (rm : RM) : Statement (.pavgwMm reg rm) :=
  Laws.between (encRm_length ..)
theorem Laws.EncodeLength.pextrwMm (reg rm : Reg) (imm : Imm8) : Statement (.pextrwMm reg rm imm) :=
  Laws.betweenImm (Laws.regBetween (encReg_length ..))
theorem Laws.EncodeLength.pinsrwMm (reg : Reg) (rm : RM) (imm : Imm8) : Statement (.pinsrwMm reg rm imm) :=
  Laws.betweenImm (encRm_length ..)
theorem Laws.EncodeLength.pmaxswMm (reg : Reg) (rm : RM) : Statement (.pmaxswMm reg rm) :=
  Laws.between (encRm_length ..)
theorem Laws.EncodeLength.pmaxubMm (reg : Reg) (rm : RM) : Statement (.pmaxubMm reg rm) :=
  Laws.between (encRm_length ..)
theorem Laws.EncodeLength.pminswMm (reg : Reg) (rm : RM) : Statement (.pminswMm reg rm) :=
  Laws.between (encRm_length ..)
theorem Laws.EncodeLength.pminubMm (reg : Reg) (rm : RM) : Statement (.pminubMm reg rm) :=
  Laws.between (encRm_length ..)
theorem Laws.EncodeLength.pmovmskbMm (reg rm : Reg) : Statement (.pmovmskbMm reg rm) :=
  Laws.between (Laws.regBetween (encReg_length ..))
theorem Laws.EncodeLength.pmulhuwMm (reg : Reg) (rm : RM) : Statement (.pmulhuwMm reg rm) :=
  Laws.between (encRm_length ..)
theorem Laws.EncodeLength.psadbwMm (reg : Reg) (rm : RM) : Statement (.psadbwMm reg rm) :=
  Laws.between (encRm_length ..)
theorem Laws.EncodeLength.pshufw (reg : Reg) (rm : RM) (imm : Imm8) : Statement (.pshufw reg rm imm) :=
  Laws.betweenImm (encRm_length ..)
theorem Laws.EncodeLength.ldmxcsr (m : MemOp) : Statement (.ldmxcsr m) := Laws.between (encMem_length ..)
theorem Laws.EncodeLength.stmxcsr (m : MemOp) : Statement (.stmxcsr m) := Laws.between (encMem_length ..)
theorem Laws.EncodeLength.fxsave (m : MemOp) : Statement (.fxsave m) := Laws.between (encMem_length ..)
theorem Laws.EncodeLength.fxrstor (m : MemOp) : Statement (.fxrstor m) := Laws.between (encMem_length ..)
theorem Laws.EncodeLength.maskmovq (reg rm : Reg) (seg : Seg) : Statement (.maskmovq reg rm seg) :=
  Laws.between (encMasked_length ..)
theorem Laws.EncodeLength.movntq (reg : Reg) (m : MemOp) : Statement (.movntq reg m) :=
  Laws.between (encMem_length ..)
theorem Laws.EncodeLength.movntps (reg : Reg) (m : MemOp) : Statement (.movntps reg m) :=
  Laws.between (encMem_length ..)
theorem Laws.EncodeLength.prefetcht0 (m : MemOp) : Statement (.prefetcht0 m) := Laws.between (encMem_length ..)
theorem Laws.EncodeLength.prefetcht1 (m : MemOp) : Statement (.prefetcht1 m) := Laws.between (encMem_length ..)
theorem Laws.EncodeLength.prefetcht2 (m : MemOp) : Statement (.prefetcht2 m) := Laws.between (encMem_length ..)
theorem Laws.EncodeLength.prefetchnta (m : MemOp) : Statement (.prefetchnta m) := Laws.between (encMem_length ..)
theorem Laws.EncodeLength.movapd (dir : Dir) (reg : Reg) (rm : RM) : Statement (.movapd dir reg rm) := by
  cases dir <;> exact Laws.between (encRm_length ..)
theorem Laws.EncodeLength.movupd (dir : Dir) (reg : Reg) (rm : RM) : Statement (.movupd dir reg rm) := by
  cases dir <;> exact Laws.between (encRm_length ..)
theorem Laws.EncodeLength.movsd (dir : Dir) (reg : Reg) (rm : RM) : Statement (.movsd dir reg rm) := by
  cases dir <;> exact Laws.between (encRm_length ..)
theorem Laws.EncodeLength.movlpd (dir : Dir) (reg : Reg) (m : MemOp) : Statement (.movlpd dir reg m) := by
  cases dir <;> exact Laws.between (encMem_length ..)
theorem Laws.EncodeLength.movhpd (dir : Dir) (reg : Reg) (m : MemOp) : Statement (.movhpd dir reg m) := by
  cases dir <;> exact Laws.between (encMem_length ..)
theorem Laws.EncodeLength.movmskpd (reg rm : Reg) : Statement (.movmskpd reg rm) :=
  Laws.between (Laws.regBetween (encReg_length ..))
theorem Laws.EncodeLength.addpd (reg : Reg) (rm : RM) : Statement (.addpd reg rm) := Laws.between (encRm_length ..)
theorem Laws.EncodeLength.addsd (reg : Reg) (rm : RM) : Statement (.addsd reg rm) := Laws.between (encRm_length ..)
theorem Laws.EncodeLength.subpd (reg : Reg) (rm : RM) : Statement (.subpd reg rm) := Laws.between (encRm_length ..)
theorem Laws.EncodeLength.subsd (reg : Reg) (rm : RM) : Statement (.subsd reg rm) := Laws.between (encRm_length ..)
theorem Laws.EncodeLength.mulpd (reg : Reg) (rm : RM) : Statement (.mulpd reg rm) := Laws.between (encRm_length ..)
theorem Laws.EncodeLength.mulsd (reg : Reg) (rm : RM) : Statement (.mulsd reg rm) := Laws.between (encRm_length ..)
theorem Laws.EncodeLength.divpd (reg : Reg) (rm : RM) : Statement (.divpd reg rm) := Laws.between (encRm_length ..)
theorem Laws.EncodeLength.divsd (reg : Reg) (rm : RM) : Statement (.divsd reg rm) := Laws.between (encRm_length ..)
theorem Laws.EncodeLength.maxpd (reg : Reg) (rm : RM) : Statement (.maxpd reg rm) := Laws.between (encRm_length ..)
theorem Laws.EncodeLength.maxsd (reg : Reg) (rm : RM) : Statement (.maxsd reg rm) := Laws.between (encRm_length ..)
theorem Laws.EncodeLength.minpd (reg : Reg) (rm : RM) : Statement (.minpd reg rm) := Laws.between (encRm_length ..)
theorem Laws.EncodeLength.minsd (reg : Reg) (rm : RM) : Statement (.minsd reg rm) := Laws.between (encRm_length ..)
theorem Laws.EncodeLength.sqrtpd (reg : Reg) (rm : RM) : Statement (.sqrtpd reg rm) := Laws.between (encRm_length ..)
theorem Laws.EncodeLength.sqrtsd (reg : Reg) (rm : RM) : Statement (.sqrtsd reg rm) := Laws.between (encRm_length ..)
theorem Laws.EncodeLength.cmppd (reg : Reg) (rm : RM) (pred : Pred) : Statement (.cmppd reg rm pred) :=
  Laws.betweenImm (encRm_length ..)
theorem Laws.EncodeLength.cmpsd (reg : Reg) (rm : RM) (pred : Pred) : Statement (.cmpsd reg rm pred) :=
  Laws.betweenImm (encRm_length ..)
theorem Laws.EncodeLength.comisd (reg : Reg) (rm : RM) : Statement (.comisd reg rm) := Laws.between (encRm_length ..)
theorem Laws.EncodeLength.ucomisd (reg : Reg) (rm : RM) : Statement (.ucomisd reg rm) :=
  Laws.between (encRm_length ..)
theorem Laws.EncodeLength.andpd (reg : Reg) (rm : RM) : Statement (.andpd reg rm) := Laws.between (encRm_length ..)
theorem Laws.EncodeLength.andnpd (reg : Reg) (rm : RM) : Statement (.andnpd reg rm) := Laws.between (encRm_length ..)
theorem Laws.EncodeLength.orpd (reg : Reg) (rm : RM) : Statement (.orpd reg rm) := Laws.between (encRm_length ..)
theorem Laws.EncodeLength.xorpd (reg : Reg) (rm : RM) : Statement (.xorpd reg rm) := Laws.between (encRm_length ..)
theorem Laws.EncodeLength.shufpd (reg : Reg) (rm : RM) (imm : Imm8) : Statement (.shufpd reg rm imm) :=
  Laws.betweenImm (encRm_length ..)
theorem Laws.EncodeLength.unpckhpd (reg : Reg) (rm : RM) : Statement (.unpckhpd reg rm) :=
  Laws.between (encRm_length ..)
theorem Laws.EncodeLength.unpcklpd (reg : Reg) (rm : RM) : Statement (.unpcklpd reg rm) :=
  Laws.between (encRm_length ..)
theorem Laws.EncodeLength.cvtpd2pi (reg : Reg) (rm : RM) : Statement (.cvtpd2pi reg rm) :=
  Laws.between (encRm_length ..)
theorem Laws.EncodeLength.cvttpd2pi (reg : Reg) (rm : RM) : Statement (.cvttpd2pi reg rm) :=
  Laws.between (encRm_length ..)
theorem Laws.EncodeLength.cvtpi2pd (reg : Reg) (rm : RM) : Statement (.cvtpi2pd reg rm) :=
  Laws.between (encRm_length ..)
theorem Laws.EncodeLength.cvtpd2dq (reg : Reg) (rm : RM) : Statement (.cvtpd2dq reg rm) :=
  Laws.between (encRm_length ..)
theorem Laws.EncodeLength.cvttpd2dq (reg : Reg) (rm : RM) : Statement (.cvttpd2dq reg rm) :=
  Laws.between (encRm_length ..)
theorem Laws.EncodeLength.cvtdq2pd (reg : Reg) (rm : RM) : Statement (.cvtdq2pd reg rm) :=
  Laws.between (encRm_length ..)
theorem Laws.EncodeLength.cvtps2pd (reg : Reg) (rm : RM) : Statement (.cvtps2pd reg rm) :=
  Laws.between (encRm_length ..)
theorem Laws.EncodeLength.cvtpd2ps (reg : Reg) (rm : RM) : Statement (.cvtpd2ps reg rm) :=
  Laws.between (encRm_length ..)
theorem Laws.EncodeLength.cvtss2sd (reg : Reg) (rm : RM) : Statement (.cvtss2sd reg rm) :=
  Laws.between (encRm_length ..)
theorem Laws.EncodeLength.cvtsd2ss (reg : Reg) (rm : RM) : Statement (.cvtsd2ss reg rm) :=
  Laws.between (encRm_length ..)
theorem Laws.EncodeLength.cvtsd2si (reg : Reg) (rm : RM) : Statement (.cvtsd2si reg rm) :=
  Laws.between (encRm_length ..)
theorem Laws.EncodeLength.cvttsd2si (reg : Reg) (rm : RM) : Statement (.cvttsd2si reg rm) :=
  Laws.between (encRm_length ..)
theorem Laws.EncodeLength.cvtsi2sd (reg : Reg) (rm : RM) : Statement (.cvtsi2sd reg rm) :=
  Laws.between (encRm_length ..)
theorem Laws.EncodeLength.cvtdq2ps (reg : Reg) (rm : RM) : Statement (.cvtdq2ps reg rm) :=
  Laws.between (encRm_length ..)
theorem Laws.EncodeLength.cvtps2dq (reg : Reg) (rm : RM) : Statement (.cvtps2dq reg rm) :=
  Laws.between (encRm_length ..)
theorem Laws.EncodeLength.cvttps2dq (reg : Reg) (rm : RM) : Statement (.cvttps2dq reg rm) :=
  Laws.between (encRm_length ..)
theorem Laws.EncodeLength.movdXmm (dir : Dir) (reg : Reg) (rm : RM) : Statement (.movdXmm dir reg rm) := by
  cases dir <;> exact Laws.between (encRm_length ..)
theorem Laws.EncodeLength.movqXmm (dir : Dir) (reg : Reg) (rm : RM) : Statement (.movqXmm dir reg rm) := by
  cases dir <;> exact Laws.between (encRm_length ..)
theorem Laws.EncodeLength.paddbXmm (reg : Reg) (rm : RM) : Statement (.paddbXmm reg rm) :=
  Laws.between (encRm_length ..)
theorem Laws.EncodeLength.paddwXmm (reg : Reg) (rm : RM) : Statement (.paddwXmm reg rm) :=
  Laws.between (encRm_length ..)
theorem Laws.EncodeLength.padddXmm (reg : Reg) (rm : RM) : Statement (.padddXmm reg rm) :=
  Laws.between (encRm_length ..)
theorem Laws.EncodeLength.paddsbXmm (reg : Reg) (rm : RM) : Statement (.paddsbXmm reg rm) :=
  Laws.between (encRm_length ..)
theorem Laws.EncodeLength.paddswXmm (reg : Reg) (rm : RM) : Statement (.paddswXmm reg rm) :=
  Laws.between (encRm_length ..)
theorem Laws.EncodeLength.paddusbXmm (reg : Reg) (rm : RM) : Statement (.paddusbXmm reg rm) :=
  Laws.between (encRm_length ..)
theorem Laws.EncodeLength.padduswXmm (reg : Reg) (rm : RM) : Statement (.padduswXmm reg rm) :=
  Laws.between (encRm_length ..)
theorem Laws.EncodeLength.psubbXmm (reg : Reg) (rm : RM) : Statement (.psubbXmm reg rm) :=
  Laws.between (encRm_length ..)
theorem Laws.EncodeLength.psubwXmm (reg : Reg) (rm : RM) : Statement (.psubwXmm reg rm) :=
  Laws.between (encRm_length ..)
theorem Laws.EncodeLength.psubdXmm (reg : Reg) (rm : RM) : Statement (.psubdXmm reg rm) :=
  Laws.between (encRm_length ..)
theorem Laws.EncodeLength.psubsbXmm (reg : Reg) (rm : RM) : Statement (.psubsbXmm reg rm) :=
  Laws.between (encRm_length ..)
theorem Laws.EncodeLength.psubswXmm (reg : Reg) (rm : RM) : Statement (.psubswXmm reg rm) :=
  Laws.between (encRm_length ..)
theorem Laws.EncodeLength.psubusbXmm (reg : Reg) (rm : RM) : Statement (.psubusbXmm reg rm) :=
  Laws.between (encRm_length ..)
theorem Laws.EncodeLength.psubuswXmm (reg : Reg) (rm : RM) : Statement (.psubuswXmm reg rm) :=
  Laws.between (encRm_length ..)
theorem Laws.EncodeLength.pmullwXmm (reg : Reg) (rm : RM) : Statement (.pmullwXmm reg rm) :=
  Laws.between (encRm_length ..)
theorem Laws.EncodeLength.pmulhwXmm (reg : Reg) (rm : RM) : Statement (.pmulhwXmm reg rm) :=
  Laws.between (encRm_length ..)
theorem Laws.EncodeLength.pmaddwdXmm (reg : Reg) (rm : RM) : Statement (.pmaddwdXmm reg rm) :=
  Laws.between (encRm_length ..)
theorem Laws.EncodeLength.pcmpeqbXmm (reg : Reg) (rm : RM) : Statement (.pcmpeqbXmm reg rm) :=
  Laws.between (encRm_length ..)
theorem Laws.EncodeLength.pcmpeqwXmm (reg : Reg) (rm : RM) : Statement (.pcmpeqwXmm reg rm) :=
  Laws.between (encRm_length ..)
theorem Laws.EncodeLength.pcmpeqdXmm (reg : Reg) (rm : RM) : Statement (.pcmpeqdXmm reg rm) :=
  Laws.between (encRm_length ..)
theorem Laws.EncodeLength.pcmpgtbXmm (reg : Reg) (rm : RM) : Statement (.pcmpgtbXmm reg rm) :=
  Laws.between (encRm_length ..)
theorem Laws.EncodeLength.pcmpgtwXmm (reg : Reg) (rm : RM) : Statement (.pcmpgtwXmm reg rm) :=
  Laws.between (encRm_length ..)
theorem Laws.EncodeLength.pcmpgtdXmm (reg : Reg) (rm : RM) : Statement (.pcmpgtdXmm reg rm) :=
  Laws.between (encRm_length ..)
theorem Laws.EncodeLength.packsswbXmm (reg : Reg) (rm : RM) : Statement (.packsswbXmm reg rm) :=
  Laws.between (encRm_length ..)
theorem Laws.EncodeLength.packssdwXmm (reg : Reg) (rm : RM) : Statement (.packssdwXmm reg rm) :=
  Laws.between (encRm_length ..)
theorem Laws.EncodeLength.packuswbXmm (reg : Reg) (rm : RM) : Statement (.packuswbXmm reg rm) :=
  Laws.between (encRm_length ..)
theorem Laws.EncodeLength.punpckhbwXmm (reg : Reg) (rm : RM) : Statement (.punpckhbwXmm reg rm) :=
  Laws.between (encRm_length ..)
theorem Laws.EncodeLength.punpckhwdXmm (reg : Reg) (rm : RM) : Statement (.punpckhwdXmm reg rm) :=
  Laws.between (encRm_length ..)
theorem Laws.EncodeLength.punpckhdqXmm (reg : Reg) (rm : RM) : Statement (.punpckhdqXmm reg rm) :=
  Laws.between (encRm_length ..)
theorem Laws.EncodeLength.punpcklbwXmm (reg : Reg) (rm : RM) : Statement (.punpcklbwXmm reg rm) :=
  Laws.between (encRm_length ..)
theorem Laws.EncodeLength.punpcklwdXmm (reg : Reg) (rm : RM) : Statement (.punpcklwdXmm reg rm) :=
  Laws.between (encRm_length ..)
theorem Laws.EncodeLength.punpckldqXmm (reg : Reg) (rm : RM) : Statement (.punpckldqXmm reg rm) :=
  Laws.between (encRm_length ..)
theorem Laws.EncodeLength.pandXmm (reg : Reg) (rm : RM) : Statement (.pandXmm reg rm) :=
  Laws.between (encRm_length ..)
theorem Laws.EncodeLength.pandnXmm (reg : Reg) (rm : RM) : Statement (.pandnXmm reg rm) :=
  Laws.between (encRm_length ..)
theorem Laws.EncodeLength.porXmm (reg : Reg) (rm : RM) : Statement (.porXmm reg rm) := Laws.between (encRm_length ..)
theorem Laws.EncodeLength.pxorXmm (reg : Reg) (rm : RM) : Statement (.pxorXmm reg rm) :=
  Laws.between (encRm_length ..)
theorem Laws.EncodeLength.psllwXmm (dst : Reg) (count : Count) : Statement (.psllwXmm dst count) := by
  cases count
  · exact Laws.between (encRm_length ..)
  · exact Laws.betweenImm (Laws.regBetween (encReg_length ..))
theorem Laws.EncodeLength.pslldXmm (dst : Reg) (count : Count) : Statement (.pslldXmm dst count) := by
  cases count
  · exact Laws.between (encRm_length ..)
  · exact Laws.betweenImm (Laws.regBetween (encReg_length ..))
theorem Laws.EncodeLength.psllqXmm (dst : Reg) (count : Count) : Statement (.psllqXmm dst count) := by
  cases count
  · exact Laws.between (encRm_length ..)
  · exact Laws.betweenImm (Laws.regBetween (encReg_length ..))
theorem Laws.EncodeLength.psrlwXmm (dst : Reg) (count : Count) : Statement (.psrlwXmm dst count) := by
  cases count
  · exact Laws.between (encRm_length ..)
  · exact Laws.betweenImm (Laws.regBetween (encReg_length ..))
theorem Laws.EncodeLength.psrldXmm (dst : Reg) (count : Count) : Statement (.psrldXmm dst count) := by
  cases count
  · exact Laws.between (encRm_length ..)
  · exact Laws.betweenImm (Laws.regBetween (encReg_length ..))
theorem Laws.EncodeLength.psrlqXmm (dst : Reg) (count : Count) : Statement (.psrlqXmm dst count) := by
  cases count
  · exact Laws.between (encRm_length ..)
  · exact Laws.betweenImm (Laws.regBetween (encReg_length ..))
theorem Laws.EncodeLength.psrawXmm (dst : Reg) (count : Count) : Statement (.psrawXmm dst count) := by
  cases count
  · exact Laws.between (encRm_length ..)
  · exact Laws.betweenImm (Laws.regBetween (encReg_length ..))
theorem Laws.EncodeLength.psradXmm (dst : Reg) (count : Count) : Statement (.psradXmm dst count) := by
  cases count
  · exact Laws.between (encRm_length ..)
  · exact Laws.betweenImm (Laws.regBetween (encReg_length ..))
theorem Laws.EncodeLength.pavgbXmm (reg : Reg) (rm : RM) : Statement (.pavgbXmm reg rm) :=
  Laws.between (encRm_length ..)
theorem Laws.EncodeLength.pavgwXmm (reg : Reg) (rm : RM) : Statement (.pavgwXmm reg rm) :=
  Laws.between (encRm_length ..)
theorem Laws.EncodeLength.pextrwXmm (reg rm : Reg) (imm : Imm8) : Statement (.pextrwXmm reg rm imm) :=
  Laws.betweenImm (Laws.regBetween (encReg_length ..))
theorem Laws.EncodeLength.pinsrwXmm (reg : Reg) (rm : RM) (imm : Imm8) : Statement (.pinsrwXmm reg rm imm) :=
  Laws.betweenImm (encRm_length ..)
theorem Laws.EncodeLength.pmaxswXmm (reg : Reg) (rm : RM) : Statement (.pmaxswXmm reg rm) :=
  Laws.between (encRm_length ..)
theorem Laws.EncodeLength.pmaxubXmm (reg : Reg) (rm : RM) : Statement (.pmaxubXmm reg rm) :=
  Laws.between (encRm_length ..)
theorem Laws.EncodeLength.pminswXmm (reg : Reg) (rm : RM) : Statement (.pminswXmm reg rm) :=
  Laws.between (encRm_length ..)
theorem Laws.EncodeLength.pminubXmm (reg : Reg) (rm : RM) : Statement (.pminubXmm reg rm) :=
  Laws.between (encRm_length ..)
theorem Laws.EncodeLength.pmovmskbXmm (reg rm : Reg) : Statement (.pmovmskbXmm reg rm) :=
  Laws.between (Laws.regBetween (encReg_length ..))
theorem Laws.EncodeLength.pmulhuwXmm (reg : Reg) (rm : RM) : Statement (.pmulhuwXmm reg rm) :=
  Laws.between (encRm_length ..)
theorem Laws.EncodeLength.psadbwXmm (reg : Reg) (rm : RM) : Statement (.psadbwXmm reg rm) :=
  Laws.between (encRm_length ..)
theorem Laws.EncodeLength.movdqa (dir : Dir) (reg : Reg) (rm : RM) : Statement (.movdqa dir reg rm) := by
  cases dir <;> exact Laws.between (encRm_length ..)
theorem Laws.EncodeLength.movdqu (dir : Dir) (reg : Reg) (rm : RM) : Statement (.movdqu dir reg rm) := by
  cases dir <;> exact Laws.between (encRm_length ..)
theorem Laws.EncodeLength.movdq2q (reg rm : Reg) : Statement (.movdq2q reg rm) :=
  Laws.between (Laws.regBetween (encReg_length ..))
theorem Laws.EncodeLength.movq2dq (reg rm : Reg) : Statement (.movq2dq reg rm) :=
  Laws.between (Laws.regBetween (encReg_length ..))
theorem Laws.EncodeLength.paddqMm (reg : Reg) (rm : RM) : Statement (.paddqMm reg rm) :=
  Laws.between (encRm_length ..)
theorem Laws.EncodeLength.paddqXmm (reg : Reg) (rm : RM) : Statement (.paddqXmm reg rm) :=
  Laws.between (encRm_length ..)
theorem Laws.EncodeLength.psubqMm (reg : Reg) (rm : RM) : Statement (.psubqMm reg rm) :=
  Laws.between (encRm_length ..)
theorem Laws.EncodeLength.psubqXmm (reg : Reg) (rm : RM) : Statement (.psubqXmm reg rm) :=
  Laws.between (encRm_length ..)
theorem Laws.EncodeLength.pmuludqMm (reg : Reg) (rm : RM) : Statement (.pmuludqMm reg rm) :=
  Laws.between (encRm_length ..)
theorem Laws.EncodeLength.pmuludqXmm (reg : Reg) (rm : RM) : Statement (.pmuludqXmm reg rm) :=
  Laws.between (encRm_length ..)
theorem Laws.EncodeLength.pshufd (reg : Reg) (rm : RM) (imm : Imm8) : Statement (.pshufd reg rm imm) :=
  Laws.betweenImm (encRm_length ..)
theorem Laws.EncodeLength.pshufhw (reg : Reg) (rm : RM) (imm : Imm8) : Statement (.pshufhw reg rm imm) :=
  Laws.betweenImm (encRm_length ..)
theorem Laws.EncodeLength.pshuflw (reg : Reg) (rm : RM) (imm : Imm8) : Statement (.pshuflw reg rm imm) :=
  Laws.betweenImm (encRm_length ..)
theorem Laws.EncodeLength.pslldq (rm : Reg) (imm : Imm8) : Statement (.pslldq rm imm) :=
  Laws.betweenImm (Laws.regBetween (encReg_length ..))
theorem Laws.EncodeLength.psrldq (rm : Reg) (imm : Imm8) : Statement (.psrldq rm imm) :=
  Laws.betweenImm (Laws.regBetween (encReg_length ..))
theorem Laws.EncodeLength.punpckhqdqXmm (reg : Reg) (rm : RM) : Statement (.punpckhqdqXmm reg rm) :=
  Laws.between (encRm_length ..)
theorem Laws.EncodeLength.punpcklqdqXmm (reg : Reg) (rm : RM) : Statement (.punpcklqdqXmm reg rm) :=
  Laws.between (encRm_length ..)
theorem Laws.EncodeLength.clflush (m : MemOp) : Statement (.clflush m) := Laws.between (encMem_length ..)
theorem Laws.EncodeLength.movntpd (reg : Reg) (m : MemOp) : Statement (.movntpd reg m) :=
  Laws.between (encMem_length ..)
theorem Laws.EncodeLength.movntdq (reg : Reg) (m : MemOp) : Statement (.movntdq reg m) :=
  Laws.between (encMem_length ..)
theorem Laws.EncodeLength.maskmovdqu (reg rm : Reg) (seg : Seg) : Statement (.maskmovdqu reg rm seg) :=
  Laws.between (encMasked_length ..)
theorem Laws.EncodeLength.movnti (reg : Reg) (m : MemOp) : Statement (.movnti reg m) :=
  Laws.between (encMem_length ..)
theorem Laws.EncodeLength.emms : Statement (.emms) := ⟨by decide, by decide⟩
theorem Laws.EncodeLength.sfence : Statement (.sfence) := ⟨by decide, by decide⟩
theorem Laws.EncodeLength.lfence : Statement (.lfence) := ⟨by decide, by decide⟩
theorem Laws.EncodeLength.mfence : Statement (.mfence) := ⟨by decide, by decide⟩
theorem Laws.EncodeLength.pause : Statement (.pause) := ⟨by decide, by decide⟩

end Sys2Proof
end

