-- ==== Sys2Proof/Laws/Shared.lean ====
section
/-! SUPPORT. What each shared meaning can answer, said once: if it answers a next state, that state is its effect or the
start state with an exception taken (`…_next`); and with its checks passed and its operand read it answers its effect
(`…_eq`). -/

namespace Sys2Proof.Machine

/-! ## MMX registers -/

theorem mmxOp_next {x : Ext} {f : Qword → Qword → Qword} {reg : Reg} {rm : RM} {s t : State}
    (h : mmxOp x f reg rm s = .next t) :
    (∃ b, checkM x s = .ok () ∧ s.mmOrMem 64 rm = .ok b ∧ t = s.writeMm reg (f (s.readMm reg) b)) ∨
      ∃ e, t = takeException s e := by
  rcases settle_next h with h | ⟨e, _, rfl⟩
  · simp only [res_bind_eq_ok, Except.ok.injEq] at h
    obtain ⟨_, hc, b, hb, rfl⟩ := h
    exact .inl ⟨b, hc, hb, rfl⟩
  · exact .inr ⟨e, rfl⟩

theorem mmxOp_eq {x : Ext} {f : Qword → Qword → Qword} {reg : Reg} {rm : RM} {s : State} {b : Qword}
    (hc : checkM x s = .ok ()) (hb : s.mmOrMem 64 rm = .ok b) :
    mmxOp x f reg rm s = .next (s.writeMm reg (f (s.readMm reg) b)) := by simp [mmxOp, hc, hb]

theorem mmxLowOp_next {x : Ext} {f : Qword → Qword → Qword} {reg : Reg} {rm : RM} {s t : State}
    (h : mmxLowOp x f reg rm s = .next t) :
    (∃ b : BitVec 32, checkM x s = .ok () ∧ s.mmOrMem 32 rm = .ok b ∧
        t = s.writeMm reg (f (s.readMm reg) (b.setWidth 64))) ∨
      ∃ e, t = takeException s e := by
  rcases settle_next h with h | ⟨e, _, rfl⟩
  · simp only [res_bind_eq_ok, Except.ok.injEq] at h
    obtain ⟨_, hc, b, hb, rfl⟩ := h
    exact .inl ⟨b, hc, hb, rfl⟩
  · exact .inr ⟨e, rfl⟩

theorem mmxLowOp_eq {x : Ext} {f : Qword → Qword → Qword} {reg : Reg} {rm : RM} {s : State} {b : BitVec 32}
    (hc : checkM x s = .ok ()) (hb : s.mmOrMem 32 rm = .ok b) :
    mmxLowOp x f reg rm s = .next (s.writeMm reg (f (s.readMm reg) (b.setWidth 64))) := by simp [mmxLowOp, hc, hb]

theorem mmxShift_next {f : Nat → Qword → Qword} {dst : Reg} {count : Count} {s t : State}
    (h : mmxShift f dst count s = .next t) :
    (∃ c, checkM .mmx s = .ok () ∧ s.mmCount count = .ok c ∧ t = s.writeMm dst (f c (s.readMm dst))) ∨
      ∃ e, t = takeException s e := by
  rcases settle_next h with h | ⟨e, _, rfl⟩
  · simp only [res_bind_eq_ok, Except.ok.injEq] at h
    obtain ⟨_, hc, c, hb, rfl⟩ := h
    exact .inl ⟨c, hc, hb, rfl⟩
  · exact .inr ⟨e, rfl⟩

theorem mmxShift_eq {f : Nat → Qword → Qword} {dst : Reg} {count : Count} {s : State} {c : Nat}
    (hc : checkM .mmx s = .ok ()) (hb : s.mmCount count = .ok c) :
    mmxShift f dst count s = .next (s.writeMm dst (f c (s.readMm dst))) := by simp [mmxShift, hc, hb]

/-! ## XMM registers -/

theorem xmmOp_next {x : Ext} {f : Xmm → Xmm → Xmm} {reg : Reg} {rm : RM} {s t : State}
    (h : xmmOp x f reg rm s = .next t) :
    (∃ b, checkX x s = .ok () ∧ s.xmmOrMem128 rm = .ok b ∧ t = s.writeXmm reg (f (s.readXmm reg) b)) ∨
      ∃ e, t = takeException s e := by
  rcases settle_next h with h | ⟨e, _, rfl⟩
  · simp only [res_bind_eq_ok, Except.ok.injEq] at h
    obtain ⟨_, hc, b, hb, rfl⟩ := h
    exact .inl ⟨b, hc, hb, rfl⟩
  · exact .inr ⟨e, rfl⟩

theorem xmmOp_eq {x : Ext} {f : Xmm → Xmm → Xmm} {reg : Reg} {rm : RM} {s : State} {b : Xmm}
    (hc : checkX x s = .ok ()) (hb : s.xmmOrMem128 rm = .ok b) :
    xmmOp x f reg rm s = .next (s.writeXmm reg (f (s.readXmm reg) b)) := by simp [xmmOp, hc, hb]

theorem xmmShift_next {f : Nat → Xmm → Xmm} {dst : Reg} {count : Count} {s t : State}
    (h : xmmShift f dst count s = .next t) :
    (∃ c, checkX .sse2 s = .ok () ∧ s.xmmCount count = .ok c ∧ t = s.writeXmm dst (f c (s.readXmm dst))) ∨
      ∃ e, t = takeException s e := by
  rcases settle_next h with h | ⟨e, _, rfl⟩
  · simp only [res_bind_eq_ok, Except.ok.injEq] at h
    obtain ⟨_, hc, c, hb, rfl⟩ := h
    exact .inl ⟨c, hc, hb, rfl⟩
  · exact .inr ⟨e, rfl⟩

theorem xmmShift_eq {f : Nat → Xmm → Xmm} {dst : Reg} {count : Count} {s : State} {c : Nat}
    (hc : checkX .sse2 s = .ok ()) (hb : s.xmmCount count = .ok c) :
    xmmShift f dst count s = .next (s.writeXmm dst (f c (s.readXmm dst))) := by simp [xmmShift, hc, hb]

theorem xmmLoad_next {x : Ext} {al : Align} {reg : Reg} {rm : RM} {s t : State} (h : xmmLoad x al reg rm s = .next t) :
    (∃ v, checkX x s = .ok () ∧ t = s.writeXmm reg v ∧
        match rm with | .reg r => v = s.readXmm r | .mem m => s.load al m 128 = .ok v) ∨
      ∃ e, t = takeException s e := by
  rcases settle_next h with h | ⟨e, _, rfl⟩
  · cases rm <;> simp only [res_bind_eq_ok, Except.ok.injEq] at h
    · obtain ⟨_, hc, v, rfl, rfl⟩ := h
      exact .inl ⟨_, hc, rfl, rfl⟩
    · obtain ⟨_, hc, v, hv, rfl⟩ := h
      exact .inl ⟨v, hc, rfl, hv⟩
  · exact .inr ⟨e, rfl⟩

theorem xmmLoad_reg_eq {x : Ext} {al : Align} {reg r : Reg} {s : State} (hc : checkX x s = .ok ()) :
    xmmLoad x al reg (.reg r) s = .next (s.writeXmm reg (s.readXmm r)) := by simp [xmmLoad, hc]

theorem xmmLoad_mem_eq {x : Ext} {al : Align} {reg : Reg} {m : MemOp} {s : State} {v : Xmm}
    (hc : checkX x s = .ok ()) (hv : s.load al m 128 = .ok v) :
    xmmLoad x al reg (.mem m) s = .next (s.writeXmm reg v) := by simp [xmmLoad, hc, hv]

theorem xmmStore_next {x : Ext} {al : Align} {reg : Reg} {rm : RM} {s t : State} (h : xmmStore x al reg rm s = .next t) :
    (checkX x s = .ok () ∧
        match rm with
        | .reg r => t = s.writeXmm r (s.readXmm reg)
        | .mem m => s.store false al m (s.readXmm reg) = .ok t) ∨
      ∃ e, t = takeException s e := by
  rcases settle_next h with h | ⟨e, _, rfl⟩
  · cases rm <;> simp only [res_bind_eq_ok, Except.ok.injEq] at h
    · obtain ⟨_, hc, rfl⟩ := h
      exact .inl ⟨hc, rfl⟩
    · obtain ⟨_, hc, ht⟩ := h
      exact .inl ⟨hc, ht⟩
  · exact .inr ⟨e, rfl⟩

theorem xmmStore_reg_eq {x : Ext} {al : Align} {reg r : Reg} {s : State} (hc : checkX x s = .ok ()) :
    xmmStore x al reg (.reg r) s = .next (s.writeXmm r (s.readXmm reg)) := by simp [xmmStore, hc]

theorem xmmStore_mem_eq {x : Ext} {al : Align} {reg : Reg} {m : MemOp} {s t : State}
    (hc : checkX x s = .ok ()) (ht : s.store false al m (s.readXmm reg) = .ok t) :
    xmmStore x al reg (.mem m) s = .next t := by simp [xmmStore, hc, ht]

theorem scalarLoad_next {x : Ext} {w : Nat} {reg : Reg} {rm : RM} {s t : State}
    (h : scalarLoad x w reg rm s = .next t) :
    (∃ v, checkX x s = .ok () ∧ t = s.writeXmm reg v ∧
        match rm with
        | .reg r => v = setLane w 0 (lane w 0 (s.readXmm r)) (s.readXmm reg)
        | .mem m => ∃ b : BitVec w, s.load .checked m w = .ok b ∧ v = b.setWidth 128) ∨
      ∃ e, t = takeException s e := by
  rcases settle_next h with h | ⟨e, _, rfl⟩
  · cases rm <;> simp only [res_bind_eq_ok, Except.ok.injEq] at h
    · obtain ⟨_, hc, rfl⟩ := h
      exact .inl ⟨_, hc, rfl, rfl⟩
    · obtain ⟨_, hc, b, hb, rfl⟩ := h
      exact .inl ⟨_, hc, rfl, b, hb, rfl⟩
  · exact .inr ⟨e, rfl⟩

theorem scalarLoad_reg_eq {x : Ext} {w : Nat} {reg r : Reg} {s : State} (hc : checkX x s = .ok ()) :
    scalarLoad x w reg (.reg r) s = .next (s.writeXmm reg (setLane w 0 (lane w 0 (s.readXmm r)) (s.readXmm reg))) := by
  simp [scalarLoad, hc]

theorem scalarLoad_mem_eq {x : Ext} {w : Nat} {reg : Reg} {m : MemOp} {s : State} {v : BitVec w}
    (hc : checkX x s = .ok ()) (hv : s.load .checked m w = .ok v) :
    scalarLoad x w reg (.mem m) s = .next (s.writeXmm reg (v.setWidth 128)) := by simp [scalarLoad, hc, hv]

theorem scalarStore_next {x : Ext} {w : Nat} {reg : Reg} {rm : RM} {s t : State}
    (h : scalarStore x w reg rm s = .next t) :
    (checkX x s = .ok () ∧
        match rm with
        | .reg r => t = s.writeXmm r (setLane w 0 (lane w 0 (s.readXmm reg)) (s.readXmm r))
        | .mem m => s.store false .checked m (lane w 0 (s.readXmm reg)) = .ok t) ∨
      ∃ e, t = takeException s e := by
  rcases settle_next h with h | ⟨e, _, rfl⟩
  · cases rm <;> simp only [res_bind_eq_ok, Except.ok.injEq] at h
    · obtain ⟨_, hc, rfl⟩ := h
      exact .inl ⟨hc, rfl⟩
    · obtain ⟨_, hc, ht⟩ := h
      exact .inl ⟨hc, ht⟩
  · exact .inr ⟨e, rfl⟩

theorem scalarStore_reg_eq {x : Ext} {w : Nat} {reg r : Reg} {s : State} (hc : checkX x s = .ok ()) :
    scalarStore x w reg (.reg r) s = .next (s.writeXmm r (setLane w 0 (lane w 0 (s.readXmm reg)) (s.readXmm r))) := by
  simp [scalarStore, hc]

theorem scalarStore_mem_eq {x : Ext} {w : Nat} {reg : Reg} {m : MemOp} {s t : State}
    (hc : checkX x s = .ok ()) (ht : s.store false .checked m (lane w 0 (s.readXmm reg)) = .ok t) :
    scalarStore x w reg (.mem m) s = .next t := by simp [scalarStore, hc, ht]

theorem halfLoad_next {x : Ext} {i : Nat} {reg : Reg} {m : MemOp} {s t : State} (h : halfLoad x i reg m s = .next t) :
    (∃ v : Qword, checkX x s = .ok () ∧ s.load .checked m 64 = .ok v ∧
        t = s.writeXmm reg (setLane 64 i v (s.readXmm reg))) ∨
      ∃ e, t = takeException s e := by
  rcases settle_next h with h | ⟨e, _, rfl⟩
  · simp only [res_bind_eq_ok, Except.ok.injEq] at h
    obtain ⟨_, hc, v, hv, rfl⟩ := h
    exact .inl ⟨v, hc, hv, rfl⟩
  · exact .inr ⟨e, rfl⟩

theorem halfLoad_eq {x : Ext} {i : Nat} {reg : Reg} {m : MemOp} {s : State} {v : Qword}
    (hc : checkX x s = .ok ()) (hv : s.load .checked m 64 = .ok v) :
    halfLoad x i reg m s = .next (s.writeXmm reg (setLane 64 i v (s.readXmm reg))) := by simp [halfLoad, hc, hv]

theorem halfStore_next {x : Ext} {i : Nat} {reg : Reg} {m : MemOp} {s t : State} (h : halfStore x i reg m s = .next t) :
    (checkX x s = .ok () ∧ s.store false .checked m (lane 64 i (s.readXmm reg)) = .ok t) ∨
      ∃ e, t = takeException s e := by
  rcases settle_next h with h | ⟨e, _, rfl⟩
  · simp only [res_bind_eq_ok] at h
    obtain ⟨_, hc, ht⟩ := h
    exact .inl ⟨hc, ht⟩
  · exact .inr ⟨e, rfl⟩

theorem halfStore_eq {x : Ext} {i : Nat} {reg : Reg} {m : MemOp} {s t : State}
    (hc : checkX x s = .ok ()) (ht : s.store false .checked m (lane 64 i (s.readXmm reg)) = .ok t) :
    halfStore x i reg m s = .next t := by simp [halfStore, hc, ht]

theorem xmmStoreNt_next {x : Ext} {reg : Reg} {m : MemOp} {s t : State} (h : xmmStoreNt x reg m s = .next t) :
    (checkX x s = .ok () ∧ s.store true .must16 m (s.readXmm reg) = .ok t) ∨ ∃ e, t = takeException s e := by
  rcases settle_next h with h | ⟨e, _, rfl⟩
  · simp only [res_bind_eq_ok] at h
    obtain ⟨_, hc, ht⟩ := h
    exact .inl ⟨hc, ht⟩
  · exact .inr ⟨e, rfl⟩

theorem xmmStoreNt_eq {x : Ext} {reg : Reg} {m : MemOp} {s t : State}
    (hc : checkX x s = .ok ()) (ht : s.store true .must16 m (s.readXmm reg) = .ok t) :
    xmmStoreNt x reg m s = .next t := by simp [xmmStoreNt, hc, ht]

theorem maskedStore_eq_ok {k : Nat} {data mask : BitVec k} {seg : Seg} {s t : State} :
    maskedStore data mask seg s = .ok t ↔
      ∃ a, s.checkBytes true .free seg (s.readGpr 7#3) (selectedOffsets mask) = .ok a ∧
        s.storeEach true a ((selectedOffsets mask).map fun j => (j, lane 8 j data)) = t := by
  simp [maskedStore, res_bind_eq_ok]

/-! ## Numeric conditions -/

/-- Are all of these conditions masked? -/
abbrev allMasked (mx : Dword) (c : BitVec 6) : Prop := c &&& ~~~mxMasks mx = 0#6

theorem mask_parts (c p m : BitVec 6) : c &&& m = 0#6 ↔ c &&& p &&& m = 0#6 ∧ c &&& ~~~p &&& m = 0#6 := by
  simp only [BitVec.eq_of_getLsbD_eq_iff, BitVec.getLsbD_and, BitVec.getLsbD_not, BitVec.getLsbD_zero]
  constructor
  · intro h
    constructor <;> intro i hi <;> specialize h i hi <;> revert h <;>
      cases c.getLsbD i <;> cases m.getLsbD i <;> simp
  · rintro ⟨h1, h2⟩ i hi
    specialize h1 i hi
    specialize h2 i hi
    revert h1 h2
    cases c.getLsbD i <;> cases p.getLsbD i <;> cases m.getLsbD i <;> simp [hi]

/-- The commit goes through exactly when every detected condition is masked. -/
theorem commit_eq_ok {s t : State} {c : BitVec 6} :
    commit s c = .ok t ↔ allMasked s.mxcsr c ∧ t = { s with mxcsr := mxOr s.mxcsr c } := by
  have hp := mask_parts c preConditions (~~~mxMasks s.mxcsr)
  unfold commit
  simp only [allMasked, hp, raise]
  split
  · next h => simp [h]
  · next h =>
    split
    · next h2 => simp [h2]
    · next h2 =>
      rw [not_not] at h h2
      simp [h, h2, eq_comm]

theorem commit_raise {s : State} {c : BitVec 6} {x : Raise} (h : commit s c = .error (.raise x)) :
    x = numericFault s (c &&& preConditions) ∨ x = numericFault s c := by
  unfold commit at h
  simp only [raise] at h
  split at h
  · cases h; exact .inl rfl
  · split at h
    · cases h; exact .inr rfl
    · cases h

theorem fpPacked_next {n : Nat} {x : Ext} {op : LaneOp n} {reg : Reg} {rm : RM} {s t : State}
    (h : fpPacked x op reg rm s = .next t) :
    (∃ b, checkX x s = .ok () ∧ s.xmmOrMem128 rm = .ok b ∧
        allMasked s.mxcsr (union (packedLanes op s.mxcsr (s.readXmm reg) b)) ∧
        t = ({ s with mxcsr := mxOr s.mxcsr (union (packedLanes op s.mxcsr (s.readXmm reg) b)) } : State).writeXmm reg
          (ofLanes 128 ((packedLanes op s.mxcsr (s.readXmm reg) b).map Lane.bits))) ∨
      ∃ e, t = takeException s e := by
  rcases settle_next h with h | ⟨e, _, rfl⟩
  · simp only [res_bind_eq_ok, commit_eq_ok, Except.ok.injEq] at h
    obtain ⟨_, hc, b, hb, _, ⟨hm, rfl⟩, rfl⟩ := h
    exact .inl ⟨b, hc, hb, hm, rfl⟩
  · exact .inr ⟨e, rfl⟩

theorem fpPacked_eq {n : Nat} {x : Ext} {op : LaneOp n} {reg : Reg} {rm : RM} {s : State} {b : Xmm}
    (hc : checkX x s = .ok ()) (hb : s.xmmOrMem128 rm = .ok b)
    (hm : allMasked s.mxcsr (union (packedLanes op s.mxcsr (s.readXmm reg) b))) :
    fpPacked x op reg rm s =
      .next (({ s with mxcsr := mxOr s.mxcsr (union (packedLanes op s.mxcsr (s.readXmm reg) b)) } : State).writeXmm reg
        (ofLanes 128 ((packedLanes op s.mxcsr (s.readXmm reg) b).map Lane.bits))) := by
  simp [fpPacked, hc, hb, commit_eq_ok.2 ⟨hm, rfl⟩]

theorem fpScalar_next {n : Nat} {x : Ext} {op : LaneOp n} {reg : Reg} {rm : RM} {s t : State}
    (h : fpScalar x op reg rm s = .next t) :
    (∃ b, checkX x s = .ok () ∧ s.xmmOrMem n rm = .ok b ∧
        allMasked s.mxcsr (op s.mxcsr (lane n 0 (s.readXmm reg)) b).conditions ∧
        t = ({ s with mxcsr := mxOr s.mxcsr (op s.mxcsr (lane n 0 (s.readXmm reg)) b).conditions } : State).writeXmm reg
          (setLane n 0 (op s.mxcsr (lane n 0 (s.readXmm reg)) b).bits (s.readXmm reg))) ∨
      ∃ e, t = takeException s e := by
  rcases settle_next h with h | ⟨e, _, rfl⟩
  · simp only [res_bind_eq_ok, commit_eq_ok, Except.ok.injEq] at h
    obtain ⟨_, hc, b, hb, _, ⟨hm, rfl⟩, rfl⟩ := h
    exact .inl ⟨b, hc, hb, hm, rfl⟩
  · exact .inr ⟨e, rfl⟩

theorem fpScalar_eq {n : Nat} {x : Ext} {op : LaneOp n} {reg : Reg} {rm : RM} {s : State} {b : BitVec n}
    (hc : checkX x s = .ok ()) (hb : s.xmmOrMem n rm = .ok b)
    (hm : allMasked s.mxcsr (op s.mxcsr (lane n 0 (s.readXmm reg)) b).conditions) :
    fpScalar x op reg rm s =
      .next (({ s with mxcsr := mxOr s.mxcsr (op s.mxcsr (lane n 0 (s.readXmm reg)) b).conditions } : State).writeXmm reg
        (setLane n 0 (op s.mxcsr (lane n 0 (s.readXmm reg)) b).bits (s.readXmm reg))) := by
  simp [fpScalar, hc, hb, commit_eq_ok.2 ⟨hm, rfl⟩]

theorem fpCompare_next {n : Nat} {x : Ext} {f : Fmt n} {anyNan : Bool} {reg : Reg} {rm : RM} {s t : State}
    (h : fpCompare x f anyNan reg rm s = .next t) :
    (∃ b, checkX x s = .ok () ∧ s.xmmOrMem n rm = .ok b ∧
        allMasked s.mxcsr (fcomi f anyNan s.mxcsr (lane n 0 (s.readXmm reg)) b).2 ∧
        t = { s with
          mxcsr := mxOr s.mxcsr (fcomi f anyNan s.mxcsr (lane n 0 (s.readXmm reg)) b).2
          eflags := compareFlags s.eflags (fcomi f anyNan s.mxcsr (lane n 0 (s.readXmm reg)) b).1 }) ∨
      ∃ e, t = takeException s e := by
  rcases settle_next h with h | ⟨e, _, rfl⟩
  · simp only [res_bind_eq_ok, commit_eq_ok, Except.ok.injEq] at h
    obtain ⟨_, hc, b, hb, _, ⟨hm, rfl⟩, rfl⟩ := h
    exact .inl ⟨b, hc, hb, hm, rfl⟩
  · exact .inr ⟨e, rfl⟩

theorem fpCompare_eq {n : Nat} {x : Ext} {f : Fmt n} {anyNan : Bool} {reg : Reg} {rm : RM} {s : State} {b : BitVec n}
    (hc : checkX x s = .ok ()) (hb : s.xmmOrMem n rm = .ok b)
    (hm : allMasked s.mxcsr (fcomi f anyNan s.mxcsr (lane n 0 (s.readXmm reg)) b).2) :
    fpCompare x f anyNan reg rm s =
      .next { s with
        mxcsr := mxOr s.mxcsr (fcomi f anyNan s.mxcsr (lane n 0 (s.readXmm reg)) b).2
        eflags := compareFlags s.eflags (fcomi f anyNan s.mxcsr (lane n 0 (s.readXmm reg)) b).1 } := by
  simp [fpCompare, hc, hb, commit_eq_ok.2 ⟨hm, rfl⟩]

/-! ## Conversions -/

theorem cvtPacked_next {m n : Nat} {w c : Nat} {f : Dword → BitVec m → Lane n} {reg : Reg} {rm : RM} {s t : State}
    (h : cvtPacked w c f reg rm s = .next t) :
    (∃ b, checkX .sse2 s = .ok () ∧ s.packedSource w rm = .ok b ∧
        allMasked s.mxcsr (union (convertLanes c (f s.mxcsr) b)) ∧
        t = ({ s with mxcsr := mxOr s.mxcsr (union (convertLanes c (f s.mxcsr) b)) } : State).writeXmm reg
          (ofLanes 128 ((convertLanes c (f s.mxcsr) b).map Lane.bits))) ∨
      ∃ e, t = takeException s e := by
  rcases settle_next h with h | ⟨e, _, rfl⟩
  · simp only [res_bind_eq_ok, commit_eq_ok, Except.ok.injEq] at h
    obtain ⟨_, hc, b, hb, _, ⟨hm, rfl⟩, rfl⟩ := h
    exact .inl ⟨b, hc, hb, hm, rfl⟩
  · exact .inr ⟨e, rfl⟩

theorem cvtPacked_eq {m n : Nat} {w c : Nat} {f : Dword → BitVec m → Lane n} {reg : Reg} {rm : RM} {s : State}
    {b : BitVec w} (hc : checkX .sse2 s = .ok ()) (hb : s.packedSource w rm = .ok b)
    (hm : allMasked s.mxcsr (union (convertLanes c (f s.mxcsr) b))) :
    cvtPacked w c f reg rm s =
      .next (({ s with mxcsr := mxOr s.mxcsr (union (convertLanes c (f s.mxcsr) b)) } : State).writeXmm reg
        (ofLanes 128 ((convertLanes c (f s.mxcsr) b).map Lane.bits))) := by
  simp [cvtPacked, hc, hb, commit_eq_ok.2 ⟨hm, rfl⟩]

theorem cvtScalar_next {m n : Nat} {f : Dword → BitVec m → Lane n} {reg : Reg} {rm : RM} {s t : State}
    (h : cvtScalar f reg rm s = .next t) :
    (∃ b, checkX .sse2 s = .ok () ∧ s.xmmOrMem m rm = .ok b ∧ allMasked s.mxcsr (f s.mxcsr b).conditions ∧
        t = ({ s with mxcsr := mxOr s.mxcsr (f s.mxcsr b).conditions } : State).writeXmm reg
          (setLane n 0 (f s.mxcsr b).bits (s.readXmm reg))) ∨
      ∃ e, t = takeException s e := by
  rcases settle_next h with h | ⟨e, _, rfl⟩
  · simp only [res_bind_eq_ok, commit_eq_ok, Except.ok.injEq] at h
    obtain ⟨_, hc, b, hb, _, ⟨hm, rfl⟩, rfl⟩ := h
    exact .inl ⟨b, hc, hb, hm, rfl⟩
  · exact .inr ⟨e, rfl⟩

theorem cvtScalar_eq {m n : Nat} {f : Dword → BitVec m → Lane n} {reg : Reg} {rm : RM} {s : State} {b : BitVec m}
    (hc : checkX .sse2 s = .ok ()) (hb : s.xmmOrMem m rm = .ok b) (hm : allMasked s.mxcsr (f s.mxcsr b).conditions) :
    cvtScalar f reg rm s =
      .next (({ s with mxcsr := mxOr s.mxcsr (f s.mxcsr b).conditions } : State).writeXmm reg
        (setLane n 0 (f s.mxcsr b).bits (s.readXmm reg))) := by
  simp [cvtScalar, hc, hb, commit_eq_ok.2 ⟨hm, rfl⟩]

theorem cvtToGpr_next {m : Nat} {x : Ext} {f : Dword → BitVec m → Lane 32} {reg : Reg} {rm : RM} {s t : State}
    (h : cvtToGpr x f reg rm s = .next t) :
    (∃ b, checkX x s = .ok () ∧ s.xmmOrMem m rm = .ok b ∧ allMasked s.mxcsr (f s.mxcsr b).conditions ∧
        t = ({ s with mxcsr := mxOr s.mxcsr (f s.mxcsr b).conditions } : State).writeGpr reg (f s.mxcsr b).bits) ∨
      ∃ e, t = takeException s e := by
  rcases settle_next h with h | ⟨e, _, rfl⟩
  · simp only [res_bind_eq_ok, commit_eq_ok, Except.ok.injEq] at h
    obtain ⟨_, hc, b, hb, _, ⟨hm, rfl⟩, rfl⟩ := h
    exact .inl ⟨b, hc, hb, hm, rfl⟩
  · exact .inr ⟨e, rfl⟩

theorem cvtToGpr_eq {m : Nat} {x : Ext} {f : Dword → BitVec m → Lane 32} {reg : Reg} {rm : RM} {s : State} {b : BitVec m}
    (hc : checkX x s = .ok ()) (hb : s.xmmOrMem m rm = .ok b) (hm : allMasked s.mxcsr (f s.mxcsr b).conditions) :
    cvtToGpr x f reg rm s =
      .next (({ s with mxcsr := mxOr s.mxcsr (f s.mxcsr b).conditions } : State).writeGpr reg (f s.mxcsr b).bits) := by
  simp [cvtToGpr, hc, hb, commit_eq_ok.2 ⟨hm, rfl⟩]

theorem cvtFromGpr_next {n : Nat} {x : Ext} {f : Dword → Dword → Lane n} {reg : Reg} {rm : RM} {s t : State}
    (h : cvtFromGpr x f reg rm s = .next t) :
    (∃ b, checkX x s = .ok () ∧ s.gprOrMem 32 rm = .ok b ∧ allMasked s.mxcsr (f s.mxcsr b).conditions ∧
        t = ({ s with mxcsr := mxOr s.mxcsr (f s.mxcsr b).conditions } : State).writeXmm reg
          (setLane n 0 (f s.mxcsr b).bits (s.readXmm reg))) ∨
      ∃ e, t = takeException s e := by
  rcases settle_next h with h | ⟨e, _, rfl⟩
  · simp only [res_bind_eq_ok, commit_eq_ok, Except.ok.injEq] at h
    obtain ⟨_, hc, b, hb, _, ⟨hm, rfl⟩, rfl⟩ := h
    exact .inl ⟨b, hc, hb, hm, rfl⟩
  · exact .inr ⟨e, rfl⟩

theorem cvtFromGpr_eq {n : Nat} {x : Ext} {f : Dword → Dword → Lane n} {reg : Reg} {rm : RM} {s : State} {b : Dword}
    (hc : checkX x s = .ok ()) (hb : s.gprOrMem 32 rm = .ok b) (hm : allMasked s.mxcsr (f s.mxcsr b).conditions) :
    cvtFromGpr x f reg rm s =
      .next (({ s with mxcsr := mxOr s.mxcsr (f s.mxcsr b).conditions } : State).writeXmm reg
        (setLane n 0 (f s.mxcsr b).bits (s.readXmm reg))) := by
  simp [cvtFromGpr, hc, hb, commit_eq_ok.2 ⟨hm, rfl⟩]

theorem cvtToMm_next {m : Nat} {x : Ext} {w : Nat} {f : Dword → BitVec m → Lane 32} {reg : Reg} {rm : RM} {s t : State}
    (h : cvtToMm x w f reg rm s = .next t) :
    (∃ b, checkXM x s = .ok () ∧ s.packedSource w rm = .ok b ∧
        allMasked s.mxcsr (union (convertLanes 2 (f s.mxcsr) b)) ∧
        t = ({ s with mxcsr := mxOr s.mxcsr (union (convertLanes 2 (f s.mxcsr) b)) } : State).writeMm reg
          (ofLanes 64 ((convertLanes 2 (f s.mxcsr) b).map Lane.bits))) ∨
      ∃ e, t = takeException s e := by
  rcases settle_next h with h | ⟨e, _, rfl⟩
  · simp only [res_bind_eq_ok, commit_eq_ok, Except.ok.injEq] at h
    obtain ⟨_, hc, b, hb, _, ⟨hm, rfl⟩, rfl⟩ := h
    exact .inl ⟨b, hc, hb, hm, rfl⟩
  · exact .inr ⟨e, rfl⟩

theorem cvtToMm_eq {m : Nat} {x : Ext} {w : Nat} {f : Dword → BitVec m → Lane 32} {reg : Reg} {rm : RM} {s : State}
    {b : BitVec w} (hc : checkXM x s = .ok ()) (hb : s.packedSource w rm = .ok b)
    (hm : allMasked s.mxcsr (union (convertLanes 2 (f s.mxcsr) b))) :
    cvtToMm x w f reg rm s =
      .next (({ s with mxcsr := mxOr s.mxcsr (union (convertLanes 2 (f s.mxcsr) b)) } : State).writeMm reg
        (ofLanes 64 ((convertLanes 2 (f s.mxcsr) b).map Lane.bits))) := by
  simp [cvtToMm, hc, hb, commit_eq_ok.2 ⟨hm, rfl⟩]

end Sys2Proof.Machine
end

