-- ==== Sys2Proof/Tests/Slice0.lean ====
section
/-! SUPPORT. Tests: the smoke of WellFormed, a word for every row of the opcode table, one step of one instruction of each
kind with the result the spec's own example gives, and for every statement with hypotheses a state that meets them. -/

namespace Sys2Proof.Tests

open Sys2Proof Sys2Proof.Machine Sys2Proof.Spec

set_option Elab.async false

/-! ## WellFormed -/

/-- ESP is no index register (30_encoding.md rule R126). -/
theorem test_illformed_index : (Instr.movaps .load 0 (.mem ⟨.ds, some 0, some 4, 0, 0⟩)).wellFormed = false := by decide

/-- A scale without an index (R126). -/
theorem test_illformed_scale : (Instr.paddbMm 0 (.mem ⟨.ds, some 0, none, 1, 0⟩)).wellFormed = false := by decide

/-- An operand that is memory alone is checked too. -/
theorem test_illformed_memory_only : (Instr.fxsave ⟨.ds, none, some 4, 0, 0⟩).wellFormed = false := by decide

/-- A shift's operand is checked too. -/
theorem test_illformed_count : (Instr.psllwXmm 0 (.rm (.mem ⟨.ds, none, none, 3, 0⟩))).wellFormed = false := by decide

theorem test_wellformed : (Instr.movaps .load 0 (.mem ⟨.ds, some 4, some 5, 3, 0⟩)).wellFormed = true := by decide

/-! ## Decoding: every row of the opcode table -/

/-- The bytes decode to the instruction, all of them used. -/
def decodesTo (p : List Byte × Instr) : Bool := decode .sse2 p.1 == .instr p.2 p.1.length

/-- Words of the rows of 40_mmx.md, register fields 1 and 2, immediate 5, written out from each row's
`encoding`. -/
def wordsMmx : List (List Byte × Instr) := [
  ([0x0F, 0x6E, 0xCA], .movdMm .load 1 (.reg 2)),
  ([0x0F, 0x7E, 0xCA], .movdMm .store 1 (.reg 2)),
  ([0x0F, 0x6F, 0xCA], .movqMm .load 1 (.reg 2)),
  ([0x0F, 0x7F, 0xCA], .movqMm .store 1 (.reg 2)),
  ([0x0F, 0xFC, 0xCA], .paddbMm 1 (.reg 2)),
  ([0x0F, 0xFD, 0xCA], .paddwMm 1 (.reg 2)),
  ([0x0F, 0xFE, 0xCA], .padddMm 1 (.reg 2)),
  ([0x0F, 0xEC, 0xCA], .paddsbMm 1 (.reg 2)),
  ([0x0F, 0xED, 0xCA], .paddswMm 1 (.reg 2)),
  ([0x0F, 0xDC, 0xCA], .paddusbMm 1 (.reg 2)),
  ([0x0F, 0xDD, 0xCA], .padduswMm 1 (.reg 2)),
  ([0x0F, 0xF8, 0xCA], .psubbMm 1 (.reg 2)),
  ([0x0F, 0xF9, 0xCA], .psubwMm 1 (.reg 2)),
  ([0x0F, 0xFA, 0xCA], .psubdMm 1 (.reg 2)),
  ([0x0F, 0xE8, 0xCA], .psubsbMm 1 (.reg 2)),
  ([0x0F, 0xE9, 0xCA], .psubswMm 1 (.reg 2)),
  ([0x0F, 0xD8, 0xCA], .psubusbMm 1 (.reg 2)),
  ([0x0F, 0xD9, 0xCA], .psubuswMm 1 (.reg 2)),
  ([0x0F, 0xD5, 0xCA], .pmullwMm 1 (.reg 2)),
  ([0x0F, 0xE5, 0xCA], .pmulhwMm 1 (.reg 2)),
  ([0x0F, 0xF5, 0xCA], .pmaddwdMm 1 (.reg 2)),
  ([0x0F, 0x74, 0xCA], .pcmpeqbMm 1 (.reg 2)),
  ([0x0F, 0x75, 0xCA], .pcmpeqwMm 1 (.reg 2)),
  ([0x0F, 0x76, 0xCA], .pcmpeqdMm 1 (.reg 2)),
  ([0x0F, 0x64, 0xCA], .pcmpgtbMm 1 (.reg 2)),
  ([0x0F, 0x65, 0xCA], .pcmpgtwMm 1 (.reg 2)),
  ([0x0F, 0x66, 0xCA], .pcmpgtdMm 1 (.reg 2))]

theorem test_decode_mmx : wordsMmx.all decodesTo = true := by decide +kernel

/-- Words of the rows of 40_mmx_pack_logic_shift.md, register fields 1 and 2, immediate 5, written out from each row's
`encoding`. -/
def wordsMmxPackLogicShift : List (List Byte × Instr) := [
  ([0x0F, 0x63, 0xCA], .packsswbMm 1 (.reg 2)),
  ([0x0F, 0x6B, 0xCA], .packssdwMm 1 (.reg 2)),
  ([0x0F, 0x67, 0xCA], .packuswbMm 1 (.reg 2)),
  ([0x0F, 0x68, 0xCA], .punpckhbwMm 1 (.reg 2)),
  ([0x0F, 0x69, 0xCA], .punpckhwdMm 1 (.reg 2)),
  ([0x0F, 0x6A, 0xCA], .punpckhdqMm 1 (.reg 2)),
  ([0x0F, 0x60, 0xCA], .punpcklbwMm 1 (.reg 2)),
  ([0x0F, 0x61, 0xCA], .punpcklwdMm 1 (.reg 2)),
  ([0x0F, 0x62, 0xCA], .punpckldqMm 1 (.reg 2)),
  ([0x0F, 0xDB, 0xCA], .pandMm 1 (.reg 2)),
  ([0x0F, 0xDF, 0xCA], .pandnMm 1 (.reg 2)),
  ([0x0F, 0xEB, 0xCA], .porMm 1 (.reg 2)),
  ([0x0F, 0xEF, 0xCA], .pxorMm 1 (.reg 2)),
  ([0x0F, 0xF1, 0xCA], .psllwMm 1 (.rm (.reg 2))),
  ([0x0F, 0x71, 0xF2, 0x05], .psllwMm 2 (.imm 5)),
  ([0x0F, 0xF2, 0xCA], .pslldMm 1 (.rm (.reg 2))),
  ([0x0F, 0x72, 0xF2, 0x05], .pslldMm 2 (.imm 5)),
  ([0x0F, 0xF3, 0xCA], .psllqMm 1 (.rm (.reg 2))),
  ([0x0F, 0x73, 0xF2, 0x05], .psllqMm 2 (.imm 5)),
  ([0x0F, 0xD1, 0xCA], .psrlwMm 1 (.rm (.reg 2))),
  ([0x0F, 0x71, 0xD2, 0x05], .psrlwMm 2 (.imm 5)),
  ([0x0F, 0xD2, 0xCA], .psrldMm 1 (.rm (.reg 2))),
  ([0x0F, 0x72, 0xD2, 0x05], .psrldMm 2 (.imm 5)),
  ([0x0F, 0xD3, 0xCA], .psrlqMm 1 (.rm (.reg 2))),
  ([0x0F, 0x73, 0xD2, 0x05], .psrlqMm 2 (.imm 5)),
  ([0x0F, 0xE1, 0xCA], .psrawMm 1 (.rm (.reg 2))),
  ([0x0F, 0x71, 0xE2, 0x05], .psrawMm 2 (.imm 5)),
  ([0x0F, 0xE2, 0xCA], .psradMm 1 (.rm (.reg 2))),
  ([0x0F, 0x72, 0xE2, 0x05], .psradMm 2 (.imm 5)),
  ([0x0F, 0x77], .emms)]

theorem test_decode_mmx_pack_logic_shift : wordsMmxPackLogicShift.all decodesTo = true := by decide +kernel

/-- Words of the rows of 42_sse_fp.md, register fields 1 and 2, immediate 5, written out from each row's
`encoding`. -/
def wordsSseFp : List (List Byte × Instr) := [
  ([0x0F, 0x28, 0xCA], .movaps .load 1 (.reg 2)),
  ([0x0F, 0x29, 0xCA], .movaps .store 1 (.reg 2)),
  ([0x0F, 0x10, 0xCA], .movups .load 1 (.reg 2)),
  ([0x0F, 0x11, 0xCA], .movups .store 1 (.reg 2)),
  ([0xF3, 0x0F, 0x10, 0xCA], .movss .load 1 (.reg 2)),
  ([0xF3, 0x0F, 0x11, 0xCA], .movss .store 1 (.reg 2)),
  ([0x0F, 0x12, 0x0A], .movlps .load 1 ⟨.ds, some 2, none, 0, 0⟩),
  ([0x0F, 0x13, 0x0A], .movlps .store 1 ⟨.ds, some 2, none, 0, 0⟩),
  ([0x0F, 0x16, 0x0A], .movhps .load 1 ⟨.ds, some 2, none, 0, 0⟩),
  ([0x0F, 0x17, 0x0A], .movhps .store 1 ⟨.ds, some 2, none, 0, 0⟩),
  ([0x0F, 0x12, 0xCA], .movhlps 1 2),
  ([0x0F, 0x16, 0xCA], .movlhps 1 2),
  ([0x0F, 0x50, 0xCA], .movmskps 1 2),
  ([0x0F, 0x58, 0xCA], .addps 1 (.reg 2)),
  ([0xF3, 0x0F, 0x58, 0xCA], .addss 1 (.reg 2)),
  ([0x0F, 0x5C, 0xCA], .subps 1 (.reg 2)),
  ([0xF3, 0x0F, 0x5C, 0xCA], .subss 1 (.reg 2)),
  ([0x0F, 0x59, 0xCA], .mulps 1 (.reg 2)),
  ([0xF3, 0x0F, 0x59, 0xCA], .mulss 1 (.reg 2)),
  ([0x0F, 0x5E, 0xCA], .divps 1 (.reg 2)),
  ([0xF3, 0x0F, 0x5E, 0xCA], .divss 1 (.reg 2)),
  ([0x0F, 0x5F, 0xCA], .maxps 1 (.reg 2)),
  ([0xF3, 0x0F, 0x5F, 0xCA], .maxss 1 (.reg 2)),
  ([0x0F, 0x5D, 0xCA], .minps 1 (.reg 2)),
  ([0xF3, 0x0F, 0x5D, 0xCA], .minss 1 (.reg 2)),
  ([0x0F, 0x51, 0xCA], .sqrtps 1 (.reg 2)),
  ([0xF3, 0x0F, 0x51, 0xCA], .sqrtss 1 (.reg 2)),
  ([0x0F, 0x53, 0xCA], .rcpps 1 (.reg 2)),
  ([0xF3, 0x0F, 0x53, 0xCA], .rcpss 1 (.reg 2)),
  ([0x0F, 0x52, 0xCA], .rsqrtps 1 (.reg 2)),
  ([0xF3, 0x0F, 0x52, 0xCA], .rsqrtss 1 (.reg 2))]

theorem test_decode_sse_fp : wordsSseFp.all decodesTo = true := by decide +kernel

/-- Words of the rows of 42_sse_fp_cmp_conv.md, register fields 1 and 2, immediate 5, written out from each row's
`encoding`. -/
def wordsSseCompareConvert : List (List Byte × Instr) := [
  ([0x0F, 0xC2, 0xCA, 0x05], .cmpps 1 (.reg 2) 5),
  ([0xF3, 0x0F, 0xC2, 0xCA, 0x05], .cmpss 1 (.reg 2) 5),
  ([0x0F, 0x2F, 0xCA], .comiss 1 (.reg 2)),
  ([0x0F, 0x2E, 0xCA], .ucomiss 1 (.reg 2)),
  ([0x0F, 0x2A, 0xCA], .cvtpi2ps 1 (.reg 2)),
  ([0x0F, 0x2D, 0xCA], .cvtps2pi 1 (.reg 2)),
  ([0x0F, 0x2C, 0xCA], .cvttps2pi 1 (.reg 2)),
  ([0xF3, 0x0F, 0x2A, 0xCA], .cvtsi2ss 1 (.reg 2)),
  ([0xF3, 0x0F, 0x2D, 0xCA], .cvtss2si 1 (.reg 2)),
  ([0xF3, 0x0F, 0x2C, 0xCA], .cvttss2si 1 (.reg 2)),
  ([0x0F, 0x54, 0xCA], .andps 1 (.reg 2)),
  ([0x0F, 0x55, 0xCA], .andnps 1 (.reg 2)),
  ([0x0F, 0x56, 0xCA], .orps 1 (.reg 2)),
  ([0x0F, 0x57, 0xCA], .xorps 1 (.reg 2)),
  ([0x0F, 0xC6, 0xCA, 0x05], .shufps 1 (.reg 2) 5),
  ([0x0F, 0x15, 0xCA], .unpckhps 1 (.reg 2)),
  ([0x0F, 0x14, 0xCA], .unpcklps 1 (.reg 2))]

theorem test_decode_sse_compare_convert : wordsSseCompareConvert.all decodesTo = true := by decide +kernel

/-- Words of the rows of 43_sse_int_state_cache.md, register fields 1 and 2, immediate 5, written out from each row's
`encoding`. -/
def wordsSseIntegerStateCache : List (List Byte × Instr) := [
  ([0x0F, 0xE0, 0xCA], .pavgbMm 1 (.reg 2)),
  ([0x0F, 0xE3, 0xCA], .pavgwMm 1 (.reg 2)),
  ([0x0F, 0xC5, 0xCA, 0x05], .pextrwMm 1 2 5),
  ([0x0F, 0xC4, 0xCA, 0x05], .pinsrwMm 1 (.reg 2) 5),
  ([0x0F, 0xEE, 0xCA], .pmaxswMm 1 (.reg 2)),
  ([0x0F, 0xDE, 0xCA], .pmaxubMm 1 (.reg 2)),
  ([0x0F, 0xEA, 0xCA], .pminswMm 1 (.reg 2)),
  ([0x0F, 0xDA, 0xCA], .pminubMm 1 (.reg 2)),
  ([0x0F, 0xD7, 0xCA], .pmovmskbMm 1 2),
  ([0x0F, 0xE4, 0xCA], .pmulhuwMm 1 (.reg 2)),
  ([0x0F, 0xF6, 0xCA], .psadbwMm 1 (.reg 2)),
  ([0x0F, 0x70, 0xCA, 0x05], .pshufw 1 (.reg 2) 5),
  ([0x0F, 0xAE, 0x12], .ldmxcsr ⟨.ds, some 2, none, 0, 0⟩),
  ([0x0F, 0xAE, 0x1A], .stmxcsr ⟨.ds, some 2, none, 0, 0⟩),
  ([0x0F, 0xAE, 0x02], .fxsave ⟨.ds, some 2, none, 0, 0⟩),
  ([0x0F, 0xAE, 0x0A], .fxrstor ⟨.ds, some 2, none, 0, 0⟩),
  ([0x0F, 0xF7, 0xCA], .maskmovq 1 2 .ds),
  ([0x0F, 0xE7, 0x0A], .movntq 1 ⟨.ds, some 2, none, 0, 0⟩),
  ([0x0F, 0x2B, 0x0A], .movntps 1 ⟨.ds, some 2, none, 0, 0⟩),
  ([0x0F, 0xAE, 0xF8], .sfence),
  ([0x0F, 0x18, 0x0A], .prefetcht0 ⟨.ds, some 2, none, 0, 0⟩),
  ([0x0F, 0x18, 0x12], .prefetcht1 ⟨.ds, some 2, none, 0, 0⟩),
  ([0x0F, 0x18, 0x1A], .prefetcht2 ⟨.ds, some 2, none, 0, 0⟩),
  ([0x0F, 0x18, 0x02], .prefetchnta ⟨.ds, some 2, none, 0, 0⟩)]

theorem test_decode_sse_integer_state_cache : wordsSseIntegerStateCache.all decodesTo = true := by decide +kernel

/-- Words of the rows of 44_sse2_fp.md, register fields 1 and 2, immediate 5, written out from each row's
`encoding`. -/
def wordsSse2Fp : List (List Byte × Instr) := [
  ([0x66, 0x0F, 0x28, 0xCA], .movapd .load 1 (.reg 2)),
  ([0x66, 0x0F, 0x29, 0xCA], .movapd .store 1 (.reg 2)),
  ([0x66, 0x0F, 0x10, 0xCA], .movupd .load 1 (.reg 2)),
  ([0x66, 0x0F, 0x11, 0xCA], .movupd .store 1 (.reg 2)),
  ([0xF2, 0x0F, 0x10, 0xCA], .movsd .load 1 (.reg 2)),
  ([0xF2, 0x0F, 0x11, 0xCA], .movsd .store 1 (.reg 2)),
  ([0x66, 0x0F, 0x12, 0x0A], .movlpd .load 1 ⟨.ds, some 2, none, 0, 0⟩),
  ([0x66, 0x0F, 0x13, 0x0A], .movlpd .store 1 ⟨.ds, some 2, none, 0, 0⟩),
  ([0x66, 0x0F, 0x16, 0x0A], .movhpd .load 1 ⟨.ds, some 2, none, 0, 0⟩),
  ([0x66, 0x0F, 0x17, 0x0A], .movhpd .store 1 ⟨.ds, some 2, none, 0, 0⟩),
  ([0x66, 0x0F, 0x50, 0xCA], .movmskpd 1 2),
  ([0x66, 0x0F, 0x58, 0xCA], .addpd 1 (.reg 2)),
  ([0xF2, 0x0F, 0x58, 0xCA], .addsd 1 (.reg 2)),
  ([0x66, 0x0F, 0x5C, 0xCA], .subpd 1 (.reg 2)),
  ([0xF2, 0x0F, 0x5C, 0xCA], .subsd 1 (.reg 2)),
  ([0x66, 0x0F, 0x59, 0xCA], .mulpd 1 (.reg 2)),
  ([0xF2, 0x0F, 0x59, 0xCA], .mulsd 1 (.reg 2)),
  ([0x66, 0x0F, 0x5E, 0xCA], .divpd 1 (.reg 2)),
  ([0xF2, 0x0F, 0x5E, 0xCA], .divsd 1 (.reg 2)),
  ([0x66, 0x0F, 0x5F, 0xCA], .maxpd 1 (.reg 2)),
  ([0xF2, 0x0F, 0x5F, 0xCA], .maxsd 1 (.reg 2)),
  ([0x66, 0x0F, 0x5D, 0xCA], .minpd 1 (.reg 2)),
  ([0xF2, 0x0F, 0x5D, 0xCA], .minsd 1 (.reg 2)),
  ([0x66, 0x0F, 0x51, 0xCA], .sqrtpd 1 (.reg 2)),
  ([0xF2, 0x0F, 0x51, 0xCA], .sqrtsd 1 (.reg 2)),
  ([0x66, 0x0F, 0xC2, 0xCA, 0x05], .cmppd 1 (.reg 2) 5),
  ([0xF2, 0x0F, 0xC2, 0xCA, 0x05], .cmpsd 1 (.reg 2) 5),
  ([0x66, 0x0F, 0x2F, 0xCA], .comisd 1 (.reg 2)),
  ([0x66, 0x0F, 0x2E, 0xCA], .ucomisd 1 (.reg 2)),
  ([0x66, 0x0F, 0x54, 0xCA], .andpd 1 (.reg 2)),
  ([0x66, 0x0F, 0x55, 0xCA], .andnpd 1 (.reg 2)),
  ([0x66, 0x0F, 0x56, 0xCA], .orpd 1 (.reg 2)),
  ([0x66, 0x0F, 0x57, 0xCA], .xorpd 1 (.reg 2)),
  ([0x66, 0x0F, 0xC6, 0xCA, 0x05], .shufpd 1 (.reg 2) 5),
  ([0x66, 0x0F, 0x15, 0xCA], .unpckhpd 1 (.reg 2)),
  ([0x66, 0x0F, 0x14, 0xCA], .unpcklpd 1 (.reg 2))]

theorem test_decode_sse2_fp : wordsSse2Fp.all decodesTo = true := by decide +kernel

/-- Words of the rows of 45_sse2_conversion.md, register fields 1 and 2, immediate 5, written out from each row's
`encoding`. -/
def wordsSse2Conversion : List (List Byte × Instr) := [
  ([0x66, 0x0F, 0x2D, 0xCA], .cvtpd2pi 1 (.reg 2)),
  ([0x66, 0x0F, 0x2C, 0xCA], .cvttpd2pi 1 (.reg 2)),
  ([0x66, 0x0F, 0x2A, 0xCA], .cvtpi2pd 1 (.reg 2)),
  ([0xF2, 0x0F, 0xE6, 0xCA], .cvtpd2dq 1 (.reg 2)),
  ([0x66, 0x0F, 0xE6, 0xCA], .cvttpd2dq 1 (.reg 2)),
  ([0xF3, 0x0F, 0xE6, 0xCA], .cvtdq2pd 1 (.reg 2)),
  ([0x0F, 0x5A, 0xCA], .cvtps2pd 1 (.reg 2)),
  ([0x66, 0x0F, 0x5A, 0xCA], .cvtpd2ps 1 (.reg 2)),
  ([0xF3, 0x0F, 0x5A, 0xCA], .cvtss2sd 1 (.reg 2)),
  ([0xF2, 0x0F, 0x5A, 0xCA], .cvtsd2ss 1 (.reg 2)),
  ([0xF2, 0x0F, 0x2D, 0xCA], .cvtsd2si 1 (.reg 2)),
  ([0xF2, 0x0F, 0x2C, 0xCA], .cvttsd2si 1 (.reg 2)),
  ([0xF2, 0x0F, 0x2A, 0xCA], .cvtsi2sd 1 (.reg 2)),
  ([0x0F, 0x5B, 0xCA], .cvtdq2ps 1 (.reg 2)),
  ([0x66, 0x0F, 0x5B, 0xCA], .cvtps2dq 1 (.reg 2)),
  ([0xF3, 0x0F, 0x5B, 0xCA], .cvttps2dq 1 (.reg 2))]

theorem test_decode_sse2_conversion : wordsSse2Conversion.all decodesTo = true := by decide +kernel

/-- Words of the rows of 46_sse2_int128_ext.md, register fields 1 and 2, immediate 5, written out from each row's
`encoding`. -/
def wordsSse2Integer : List (List Byte × Instr) := [
  ([0x66, 0x0F, 0x6E, 0xCA], .movdXmm .load 1 (.reg 2)),
  ([0x66, 0x0F, 0x7E, 0xCA], .movdXmm .store 1 (.reg 2)),
  ([0xF3, 0x0F, 0x7E, 0xCA], .movqXmm .load 1 (.reg 2)),
  ([0x66, 0x0F, 0xD6, 0xCA], .movqXmm .store 1 (.reg 2)),
  ([0x66, 0x0F, 0xFC, 0xCA], .paddbXmm 1 (.reg 2)),
  ([0x66, 0x0F, 0xFD, 0xCA], .paddwXmm 1 (.reg 2)),
  ([0x66, 0x0F, 0xFE, 0xCA], .padddXmm 1 (.reg 2)),
  ([0x66, 0x0F, 0xEC, 0xCA], .paddsbXmm 1 (.reg 2)),
  ([0x66, 0x0F, 0xED, 0xCA], .paddswXmm 1 (.reg 2)),
  ([0x66, 0x0F, 0xDC, 0xCA], .paddusbXmm 1 (.reg 2)),
  ([0x66, 0x0F, 0xDD, 0xCA], .padduswXmm 1 (.reg 2)),
  ([0x66, 0x0F, 0xF8, 0xCA], .psubbXmm 1 (.reg 2)),
  ([0x66, 0x0F, 0xF9, 0xCA], .psubwXmm 1 (.reg 2)),
  ([0x66, 0x0F, 0xFA, 0xCA], .psubdXmm 1 (.reg 2)),
  ([0x66, 0x0F, 0xE8, 0xCA], .psubsbXmm 1 (.reg 2)),
  ([0x66, 0x0F, 0xE9, 0xCA], .psubswXmm 1 (.reg 2)),
  ([0x66, 0x0F, 0xD8, 0xCA], .psubusbXmm 1 (.reg 2)),
  ([0x66, 0x0F, 0xD9, 0xCA], .psubuswXmm 1 (.reg 2)),
  ([0x66, 0x0F, 0xD5, 0xCA], .pmullwXmm 1 (.reg 2)),
  ([0x66, 0x0F, 0xE5, 0xCA], .pmulhwXmm 1 (.reg 2)),
  ([0x66, 0x0F, 0xF5, 0xCA], .pmaddwdXmm 1 (.reg 2)),
  ([0x66, 0x0F, 0x74, 0xCA], .pcmpeqbXmm 1 (.reg 2)),
  ([0x66, 0x0F, 0x75, 0xCA], .pcmpeqwXmm 1 (.reg 2)),
  ([0x66, 0x0F, 0x76, 0xCA], .pcmpeqdXmm 1 (.reg 2)),
  ([0x66, 0x0F, 0x64, 0xCA], .pcmpgtbXmm 1 (.reg 2)),
  ([0x66, 0x0F, 0x65, 0xCA], .pcmpgtwXmm 1 (.reg 2)),
  ([0x66, 0x0F, 0x66, 0xCA], .pcmpgtdXmm 1 (.reg 2))]

theorem test_decode_sse2_integer : wordsSse2Integer.all decodesTo = true := by decide +kernel

/-- Words of the rows of 46_sse2_int128_ext_pack_logic_shift.md, register fields 1 and 2, immediate 5, written out from each row's
`encoding`. -/
def wordsSse2PackLogicShift : List (List Byte × Instr) := [
  ([0x66, 0x0F, 0x63, 0xCA], .packsswbXmm 1 (.reg 2)),
  ([0x66, 0x0F, 0x6B, 0xCA], .packssdwXmm 1 (.reg 2)),
  ([0x66, 0x0F, 0x67, 0xCA], .packuswbXmm 1 (.reg 2)),
  ([0x66, 0x0F, 0x68, 0xCA], .punpckhbwXmm 1 (.reg 2)),
  ([0x66, 0x0F, 0x69, 0xCA], .punpckhwdXmm 1 (.reg 2)),
  ([0x66, 0x0F, 0x6A, 0xCA], .punpckhdqXmm 1 (.reg 2)),
  ([0x66, 0x0F, 0x60, 0xCA], .punpcklbwXmm 1 (.reg 2)),
  ([0x66, 0x0F, 0x61, 0xCA], .punpcklwdXmm 1 (.reg 2)),
  ([0x66, 0x0F, 0x62, 0xCA], .punpckldqXmm 1 (.reg 2)),
  ([0x66, 0x0F, 0xDB, 0xCA], .pandXmm 1 (.reg 2)),
  ([0x66, 0x0F, 0xDF, 0xCA], .pandnXmm 1 (.reg 2)),
  ([0x66, 0x0F, 0xEB, 0xCA], .porXmm 1 (.reg 2)),
  ([0x66, 0x0F, 0xEF, 0xCA], .pxorXmm 1 (.reg 2)),
  ([0x66, 0x0F, 0xF1, 0xCA], .psllwXmm 1 (.rm (.reg 2))),
  ([0x66, 0x0F, 0x71, 0xF2, 0x05], .psllwXmm 2 (.imm 5)),
  ([0x66, 0x0F, 0xF2, 0xCA], .pslldXmm 1 (.rm (.reg 2))),
  ([0x66, 0x0F, 0x72, 0xF2, 0x05], .pslldXmm 2 (.imm 5)),
  ([0x66, 0x0F, 0xF3, 0xCA], .psllqXmm 1 (.rm (.reg 2))),
  ([0x66, 0x0F, 0x73, 0xF2, 0x05], .psllqXmm 2 (.imm 5)),
  ([0x66, 0x0F, 0xD1, 0xCA], .psrlwXmm 1 (.rm (.reg 2))),
  ([0x66, 0x0F, 0x71, 0xD2, 0x05], .psrlwXmm 2 (.imm 5)),
  ([0x66, 0x0F, 0xD2, 0xCA], .psrldXmm 1 (.rm (.reg 2))),
  ([0x66, 0x0F, 0x72, 0xD2, 0x05], .psrldXmm 2 (.imm 5)),
  ([0x66, 0x0F, 0xD3, 0xCA], .psrlqXmm 1 (.rm (.reg 2))),
  ([0x66, 0x0F, 0x73, 0xD2, 0x05], .psrlqXmm 2 (.imm 5)),
  ([0x66, 0x0F, 0xE1, 0xCA], .psrawXmm 1 (.rm (.reg 2))),
  ([0x66, 0x0F, 0x71, 0xE2, 0x05], .psrawXmm 2 (.imm 5)),
  ([0x66, 0x0F, 0xE2, 0xCA], .psradXmm 1 (.rm (.reg 2))),
  ([0x66, 0x0F, 0x72, 0xE2, 0x05], .psradXmm 2 (.imm 5))]

theorem test_decode_sse2_pack_logic_shift : wordsSse2PackLogicShift.all decodesTo = true := by decide +kernel

/-- Words of the rows of 47_sse2_int128_new.md, register fields 1 and 2, immediate 5, written out from each row's
`encoding`. -/
def wordsSse2IntegerNew : List (List Byte × Instr) := [
  ([0x66, 0x0F, 0xE0, 0xCA], .pavgbXmm 1 (.reg 2)),
  ([0x66, 0x0F, 0xE3, 0xCA], .pavgwXmm 1 (.reg 2)),
  ([0x66, 0x0F, 0xC5, 0xCA, 0x05], .pextrwXmm 1 2 5),
  ([0x66, 0x0F, 0xC4, 0xCA, 0x05], .pinsrwXmm 1 (.reg 2) 5),
  ([0x66, 0x0F, 0xEE, 0xCA], .pmaxswXmm 1 (.reg 2)),
  ([0x66, 0x0F, 0xDE, 0xCA], .pmaxubXmm 1 (.reg 2)),
  ([0x66, 0x0F, 0xEA, 0xCA], .pminswXmm 1 (.reg 2)),
  ([0x66, 0x0F, 0xDA, 0xCA], .pminubXmm 1 (.reg 2)),
  ([0x66, 0x0F, 0xD7, 0xCA], .pmovmskbXmm 1 2),
  ([0x66, 0x0F, 0xE4, 0xCA], .pmulhuwXmm 1 (.reg 2)),
  ([0x66, 0x0F, 0xF6, 0xCA], .psadbwXmm 1 (.reg 2)),
  ([0x66, 0x0F, 0x6F, 0xCA], .movdqa .load 1 (.reg 2)),
  ([0x66, 0x0F, 0x7F, 0xCA], .movdqa .store 1 (.reg 2)),
  ([0xF3, 0x0F, 0x6F, 0xCA], .movdqu .load 1 (.reg 2)),
  ([0xF3, 0x0F, 0x7F, 0xCA], .movdqu .store 1 (.reg 2)),
  ([0xF2, 0x0F, 0xD6, 0xCA], .movdq2q 1 2),
  ([0xF3, 0x0F, 0xD6, 0xCA], .movq2dq 1 2),
  ([0x0F, 0xD4, 0xCA], .paddqMm 1 (.reg 2)),
  ([0x66, 0x0F, 0xD4, 0xCA], .paddqXmm 1 (.reg 2)),
  ([0x0F, 0xFB, 0xCA], .psubqMm 1 (.reg 2)),
  ([0x66, 0x0F, 0xFB, 0xCA], .psubqXmm 1 (.reg 2)),
  ([0x0F, 0xF4, 0xCA], .pmuludqMm 1 (.reg 2)),
  ([0x66, 0x0F, 0xF4, 0xCA], .pmuludqXmm 1 (.reg 2)),
  ([0x66, 0x0F, 0x70, 0xCA, 0x05], .pshufd 1 (.reg 2) 5),
  ([0xF3, 0x0F, 0x70, 0xCA, 0x05], .pshufhw 1 (.reg 2) 5),
  ([0xF2, 0x0F, 0x70, 0xCA, 0x05], .pshuflw 1 (.reg 2) 5),
  ([0x66, 0x0F, 0x73, 0xFA, 0x05], .pslldq 2 5),
  ([0x66, 0x0F, 0x73, 0xDA, 0x05], .psrldq 2 5),
  ([0x66, 0x0F, 0x6D, 0xCA], .punpckhqdqXmm 1 (.reg 2)),
  ([0x66, 0x0F, 0x6C, 0xCA], .punpcklqdqXmm 1 (.reg 2))]

theorem test_decode_sse2_integer_new : wordsSse2IntegerNew.all decodesTo = true := by decide +kernel

/-- Words of the rows of 48_sse2_cache.md, register fields 1 and 2, immediate 5, written out from each row's
`encoding`. -/
def wordsSse2Cache : List (List Byte × Instr) := [
  ([0x0F, 0xAE, 0x3A], .clflush ⟨.ds, some 2, none, 0, 0⟩),
  ([0x0F, 0xAE, 0xE8], .lfence),
  ([0x0F, 0xAE, 0xF0], .mfence),
  ([0x66, 0x0F, 0x2B, 0x0A], .movntpd 1 ⟨.ds, some 2, none, 0, 0⟩),
  ([0x66, 0x0F, 0xE7, 0x0A], .movntdq 1 ⟨.ds, some 2, none, 0, 0⟩),
  ([0x66, 0x0F, 0xF7, 0xCA], .maskmovdqu 1 2 .ds),
  ([0x0F, 0xC3, 0x0A], .movnti 1 ⟨.ds, some 2, none, 0, 0⟩),
  ([0xF3, 0x90], .pause)]

theorem test_decode_sse2_cache : wordsSse2Cache.all decodesTo = true := by decide +kernel


/-- Addressing forms (30_encoding.md rules R124 to R128): each `mod`, the SIB byte, the displacements, the default and the
overriding segment, the 67 prefix without a memory operand, and the prefixes in either order. -/
def wordsAddressing : List (List Byte × Instr) := [
  ([0x0F, 0x28, 0x08], .movaps .load 1 (.mem ⟨.ds, some 0, none, 0, 0⟩)),
  ([0x0F, 0x28, 0x0D, 0x78, 0x56, 0x34, 0x12], .movaps .load 1 (.mem ⟨.ds, none, none, 0, 0x12345678⟩)),
  ([0x0F, 0x28, 0x48, 0xF0], .movaps .load 1 (.mem ⟨.ds, some 0, none, 0, 0xFFFFFFF0⟩)),
  ([0x0F, 0x28, 0x88, 0x00, 0x01, 0x00, 0x00], .movaps .load 1 (.mem ⟨.ds, some 0, none, 0, 0x100⟩)),
  ([0x0F, 0x28, 0x4D, 0x00], .movaps .load 1 (.mem ⟨.ss, some 5, none, 0, 0⟩)),
  ([0x0F, 0x28, 0x0C, 0x24], .movaps .load 1 (.mem ⟨.ss, some 4, none, 0, 0⟩)),
  ([0x0F, 0x28, 0x0C, 0xC8], .movaps .load 1 (.mem ⟨.ds, some 0, some 1, 3, 0⟩)),
  ([0x0F, 0x28, 0x0C, 0x4D, 0x04, 0x00, 0x00, 0x00], .movaps .load 1 (.mem ⟨.ds, none, some 1, 1, 4⟩)),
  ([0x65, 0x0F, 0x28, 0x08], .movaps .load 1 (.mem ⟨.gs, some 0, none, 0, 0⟩)),
  ([0x3E, 0x0F, 0x28, 0x4D, 0x00], .movaps .load 1 (.mem ⟨.ds, some 5, none, 0, 0⟩)),
  ([0x66, 0x2E, 0x0F, 0x28, 0x08], .movapd .load 1 (.mem ⟨.cs, some 0, none, 0, 0⟩)),
  ([0x26, 0x66, 0x0F, 0x28, 0x08], .movapd .load 1 (.mem ⟨.es, some 0, none, 0, 0⟩)),
  ([0x67, 0x0F, 0x28, 0xCA], .movaps .load 1 (.reg 2)),
  ([0x36, 0x0F, 0xF7, 0xCA], .maskmovq 1 2 .ss),
  ([0x0F, 0x18, 0x08], .prefetcht0 ⟨.ds, some 0, none, 0, 0⟩),
  ([0x0F, 0x71, 0xD1, 0xFF], .psrlwMm 1 (.imm 0xFF))]

/-- LOCK, the 67 prefix and a segment override on PAUSE; prefixes that R138 (c), (d) refuse, the refusal before #UD for LOCK, a
forbidden `mod`, and a missing feature (30_encoding.md R136, R138, R139, R141; 92_eei_decisions.md D7, D20). -/
theorem test_decode_prefixes :
    decode .sse2 [0xF0, 0xF3, 0x90] = .undefined ∧ decode .mmx [0x67, 0xF3, 0x2E, 0x90] = .instr .pause 4 ∧
    decode .sse2 [0x66, 0xF3, 0x90] = .refused .mandatoryPrefixMisuse ∧ decode .sse2 [0xF3, 0xF3, 0x90] = .refused .repeatedPrefix ∧
    decode .sse2 [0xF0, 0xF0, 0x0F, 0xFC, 0xCA] = .refused .repeatedPrefix ∧
    decode .sse2 [0x26, 0x26, 0x0F, 0x13, 0xC1] = .refused .repeatedPrefix ∧
    decode .mmx [0x26, 0x26, 0x0F, 0x58, 0xC1] = .refused .repeatedPrefix ∧ decode .sse2 [0xF0, 0x0F, 0x13, 0xC1] = .undefined ∧
    decode .sse2 (List.replicate 15 0x66) = .needMore := by decide +kernel

theorem test_decode_addressing : wordsAddressing.all decodesTo = true := by decide +kernel

/-- The table word of `0F FC /r` with both register fields 0, first byte most significant as the table's patterns are read, or
least significant (log 21), is PADDB either way. -/
theorem test_table_word : decodeTableWord 24 0xC0FC0F = some (.paddbMm 0 (.reg 0)) := by decide +kernel

/-! ## One step -/

/-- The launch state of 92_eei_decisions.md D12. -/
def ready : State := State.launch 0x1000#32

/-- The outcome is a next state of which `p` holds. -/
def gives (o : Host.Outcome State Fault Refusal) (p : State → Bool) : Bool :=
  match o with
  | .next t => p t
  | _ => false

theorem gives_iff {o : Host.Outcome State Fault Refusal} {p : State → Bool} (h : gives o p = true) :
    ∃ t, o = .next t ∧ p t = true := by
  cases o with
  | next t => exact ⟨t, rfl, h⟩
  | fault f => simp [gives] at h
  | refused r => simp [gives] at h

/-- `mm[1]` and `mm[2]` set, the x87 state as after FNINIT. -/
def mmState (d s : Qword) : State := (ready.writeFpr 1 (0#16 ++ d)).writeFpr 2 (0#16 ++ s)

/-- `xmm[1]` and `xmm[2]` set. -/
def xmmState (d s : Xmm) : State := (ready.writeXmm 1 d).writeXmm 2 s

/-- Bytes in memory from an address upwards. -/
def holding (a : Nat) (bytes : List Byte) : State := { ready with mem := Memory.writeBytes [] a bytes }

/-- `DS:[a]`. -/
def dsAt (a : Dword) : MemOp := ⟨.ds, none, none, 0, a⟩

/-- R210. -/
theorem test_paddsb : gives (exec (.paddsbMm 1 (.reg 2)) (mmState 0x7F80FF0001FE8010#64 0x018001FF7F02807F#64)) (fun t =>
    t.readMm 1 = 0x7F8000FF7F00807F#64 && t.readFpr 1 = 0xFFFF7F8000FF7F00807F#80 && t.ftw = 0#16) = true := by
  decide +kernel

/-- R219. -/
theorem test_psubusb : gives (exec (.psubusbMm 1 (.reg 2)) (mmState 0x7F80FF0001FE8010#64 0x018001FF7F02807F#64)) (fun t =>
    t.readMm 1 = 0x7E00FE0000FC0000#64) = true := by decide +kernel

/-- R222. -/
theorem test_pmulhw : gives (exec (.pmulhwMm 1 (.reg 2)) (mmState 0x7FFF8000FFFF0001#64 0x0001800000027FFF#64)) (fun t =>
    t.readMm 1 = 0x00004000FFFF0000#64) = true := by decide +kernel

/-- R223, the corner. -/
theorem test_pmaddwd : gives (exec (.pmaddwdMm 1 (.reg 2)) (mmState 0x80008000#64 0x80008000#64)) (fun t =>
    t.readMm 1 = 0x80000000#64) = true := by decide +kernel

/-- R230: which operand's lanes come low. -/
theorem test_packsswb : gives (exec (.packsswbMm 1 (.reg 2)) (mmState 0x7FFF8000FFFF0001#64 0x0001800000027FFF#64)) (fun t =>
    t.readMm 1 = 0x0180027F7F80FF01#64) = true := by decide +kernel

/-- R236. -/
theorem test_punpcklbw : gives (exec (.punpcklbwMm 1 (.reg 2)) (mmState 0x7F80FF0001FE8010#64 0x018001FF7F02807F#64))
    (fun t => t.readMm 1 = 0x7F0102FE80807F10#64) = true := by decide +kernel

/-- R240: which operand is complemented. -/
theorem test_pandn : gives (exec (.pandnMm 1 (.reg 2)) (mmState 0x7FFF8000FFFF0001#64 0x0001800000027FFF#64)) (fun t =>
    t.readMm 1 = 0x0000000000007FFE#64) = true := by decide +kernel

/-- R243. -/
theorem test_psllw : gives (exec (.psllwMm 1 (.imm 4)) (mmState 0x7FFF8000FFFF0001#64 0#64)) (fun t =>
    t.readMm 1 = 0xFFF00000FFF00010#64) = true := by decide +kernel

/-- R255: a count past the lane. -/
theorem test_psraw : gives (exec (.psrawMm 1 (.rm (.reg 2))) (mmState 0x7FFF8000FFFF0001#64 16#64)) (fun t =>
    t.readMm 1 = 0x0000FFFFFFFF0000#64) = true := by decide +kernel

/-- R259. -/
theorem test_emms : gives (exec .emms { ready with ftw := 0#16, fsw := 0x3800#16 }) (fun t =>
    t.ftw = 0xFFFF#16 && t.fsw = 0#16) = true := by decide +kernel

/-- R412. -/
theorem test_pavgb : gives (exec (.pavgbMm 1 (.reg 2)) (mmState 0x7F80FF0001FE8010#64 0x018001FF7F02807F#64)) (fun t =>
    t.readMm 1 = 0x4080808040808048#64) = true := by decide +kernel

/-- R414: the selector is taken modulo 4. -/
theorem test_pextrw : gives (exec (.pextrwMm 3 2 5) (mmState 0#64 0x7FFF8000FFFF0001#64)) (fun t =>
    t.readGpr 3 = 0x0000FFFF#32) = true := by decide +kernel

/-- R614. -/
theorem test_pinsrw : gives (exec (.pinsrwXmm 1 (.reg 3) 9)
    ((xmmState 0x1234ABCD80017FFE7FFF8000FFFF0001#128 0#128).writeGpr 3 0x1234BEEF#32)) (fun t =>
    t.readXmm 1 = 0x1234ABCD80017FFE7FFF8000BEEF0001#128) = true := by decide +kernel

/-- R422. -/
theorem test_psadbw : gives (exec (.psadbwMm 1 (.reg 2)) (mmState 0x7F80FF0001FE8010#64 0x018001FF7F02807F#64)) (fun t =>
    t.readMm 1 = 0x464#64) = true := by decide +kernel

/-- R632. -/
theorem test_pmuludq : gives (exec (.pmuludqMm 1 (.reg 2)) (mmState 0x12345678FFFFFFFF#64 0x12345678FFFFFFFF#64)) (fun t =>
    t.readMm 1 = 0xFFFFFFFE00000001#64) = true := by decide +kernel

/-- R635. -/
theorem test_pshufhw : gives (exec (.pshufhw 1 (.reg 2) 0x1B) (xmmState 0#128 0x77776666555544443333222211110000#128))
    (fun t => t.readXmm 1 = 0x44445555666677773333222211110000#128) = true := by decide +kernel

/-- R637. -/
theorem test_pslldq : gives (exec (.pslldq 1 1) (xmmState 0x0F0E0D0C0B0A09080706050403020100#128 0#128)) (fun t =>
    t.readXmm 1 = 0x0E0D0C0B0A0908070605040302010000#128) = true := by decide +kernel

/-- R338: from memory the upper bits become zero. -/
theorem test_movss : gives (exec (.movss .load 1 (.mem (dsAt 0x2001))) ((holding 0x2001 [0, 0, 0x80, 0x3F]).writeXmm 1
    0xFFEEDDCCBBAA99887766554433221100#128)) (fun t => t.readXmm 1 = 0x3F800000#128) = true := by decide +kernel

/-- R344. -/
theorem test_movhlps : gives (exec (.movhlps 1 2)
    (xmmState 0xFFEEDDCCBBAA99887766554433221100#128 0x0F0E0D0C0B0A09080706050403020100#128)) (fun t =>
    t.readXmm 1 = 0xFFEEDDCCBBAA99880F0E0D0C0B0A0908#128) = true := by decide +kernel

/-- R348. -/
theorem test_addss : gives (exec (.addss 1 (.reg 2)) (xmmState 0xAAAAAAAABBBBBBBBCCCCCCCC3F800001#128 0x33800000#128))
    (fun t => t.readXmm 1 = 0xAAAAAAAABBBBBBBBCCCCCCCC3F800002#128 && t.mxcsr = 0x1FA0#32) = true := by decide +kernel

/-- R354. -/
theorem test_divss : gives (exec (.divss 1 (.reg 2)) (xmmState 0xAAAAAAAABBBBBBBBCCCCCCCC3F800000#128 0x40400000#128))
    (fun t => t.readXmm 1 = 0xAAAAAAAABBBBBBBBCCCCCCCC3EAAAAAB#128 && t.mxcsr = 0x1FA0#32) = true := by decide +kernel

/-- R360. -/
theorem test_sqrtss : gives (exec (.sqrtss 1 (.reg 2)) (xmmState 0xAAAAAAAABBBBBBBBCCCCCCCC3F800000#128
    0x11111111222222223333333340000000#128)) (fun t =>
    t.readXmm 1 = 0xAAAAAAAABBBBBBBBCCCCCCCC3FB504F3#128) = true := by decide +kernel

/-- R358: a NaN gives the second operand. -/
theorem test_minss : gives (exec (.minss 1 (.reg 2)) (xmmState 0xAAAAAAAABBBBBBBBCCCCCCCC3F800000#128 0x7FC00000#128))
    (fun t => t.readXmm 1 = 0xAAAAAAAABBBBBBBBCCCCCCCC7FC00000#128 && t.mxcsr = 0x1F81#32) = true := by decide +kernel

/-- R365. -/
theorem test_cmpps : gives (exec (.cmpps 1 (.reg 2) 1) (xmmState 0x7FC00000000000003F8000003F800000#128
    0x3F800000800000003F80000040000000#128)) (fun t =>
    t.readXmm 1 = 0xFFFFFFFF#128 && t.mxcsr = 0x1F81#32) = true := by decide +kernel

/-- R367. -/
theorem test_comiss : gives (exec (.comiss 1 (.reg 2)) (xmmState 0x3F800000#128 0x7FC00000#128)) (fun t =>
    t.eflags = 0x47#32 && t.mxcsr = 0x1F81#32) = true := by decide +kernel

/-- R372. -/
theorem test_cvtsi2ss : gives (exec (.cvtsi2ss 1 (.reg 3)) (ready.writeGpr 3 0x01000001#32)) (fun t =>
    t.readXmm 1 = 0x4B800000#128 && t.mxcsr = 0x1FA0#32) = true := by decide +kernel

/-- R503. -/
theorem test_cvttpd2pi : gives (exec (.cvttpd2pi 1 (.reg 2)) (xmmState 0#128 0xC1E0000000200000400C000000000000#128))
    (fun t => t.readMm 1 = 0x8000000000000003#64 && t.mxcsr = 0x1FA1#32 && t.ftw = 0#16) = true := by decide +kernel

/-- R509. -/
theorem test_cvtpd2ps : gives (exec (.cvtpd2ps 1 (.reg 2)) (xmmState 0#128 0x47F00000000000003FF0000010000000#128)) (fun t =>
    t.readXmm 1 = 0x7F8000003F800000#128 && t.mxcsr = 0x1FA8#32) = true := by decide +kernel

/-- R424. -/
theorem test_ldmxcsr : gives (exec (.ldmxcsr (dsAt 0x2003)) (holding 0x2003 [0x80, 0x7F])) (fun t =>
    t.mxcsr = 0x7F80#32) = true := by decide +kernel

/-- R424: a reserved bit. -/
theorem test_ldmxcsr_reserved : gives (exec (.ldmxcsr (dsAt 0x2003)) (holding 0x2003 [0x80, 0x1F, 1])) (fun t =>
    t.mxcsr = 0x1F80#32 && t.raised = some ⟨.gp, some 0, 0x1000, none⟩) = true := by decide +kernel

/-- R654. -/
theorem test_maskmovdqu : gives (exec (.maskmovdqu 1 2 .ds) ((xmmState 0x00112233445566778899AABBCCDDEEFF#128
    0x80000000000000000100007F00FF80FE#128).writeGpr 7 0x2005#32)) (fun t =>
    t.bytes 0x2005 3 = [0xFF, 0xEE, 0xDD] && t.byte 0x2014 = 0x00 && t.sb.length = 4 && t.mem = []) = true := by decide +kernel

/-- R655. -/
theorem test_movnti : gives (exec (.movnti 3 (dsAt 0x2004)) (ready.writeGpr 3 0xCAFEF00D#32)) (fun t =>
    t.sb = [.store true 0x2004 [0x0D, 0xF0, 0xFE, 0xCA]]) = true := by decide +kernel

/-- R98, R100: a marker behind a pending store, then everything drained. -/
theorem test_fences : gives (exec .sfence { ready with sb := [.store true 0x2000 [7]] }) (fun t =>
    t.sb = [.store true 0x2000 [7], .sf] && gives (exec .mfence t) fun u => u.sb = [] && u.mem = [(0x2000, 7)]) = true := by
  decide +kernel

/-- Linear pages 5 and 6 in physical page 2, which the supervisor may write and the user only read. -/
def aliased : State :=
  { ready with plat := { ready.plat with pages := [⟨5, 5, 2, true, [(0, .write), (3, .read)]⟩, ⟨6, 6, 2, true, [(3, .read)]⟩] } }

/-- R94: what the supervisor stores through page 5 is read through page 6, and lies in physical page 2; the user's store is a page
fault, code 7. -/
theorem test_translation :
    gives (exec (.movnti 3 (dsAt 0x5004)) ({ aliased with cpl := 0 }.writeGpr 3 0xCAFEF00D#32)) (fun t =>
      t.bytes 0x6004 4 = [0x0D, 0xF0, 0xFE, 0xCA] && t.sb = [.store true 0x2004 [0x0D, 0xF0, 0xFE, 0xCA]]) = true ∧
    gives (exec (.movnti 3 (dsAt 0x5004)) aliased) (fun t => t.raised = some ⟨.pf, some 7, 0x1000, some 0x5004⟩) = true := by
  decide +kernel

/-- The step fetches the word it is given, runs it, and moves `eip` past it. -/
theorem test_step : gives (step (State.reset.withFetchWord 24 0xC0FC0F)) (fun t => t.eip = 0xFFF3#32 && t.ftw = 0#16) = true := by
  decide +kernel

/-- An SSE instruction right after reset, with `cr4.OSFXSR` 0: #UD, `eip` kept; the next step ends the run. -/
theorem test_step_undefined : gives (step (State.reset.withFetchWord 24 0xC0280F)) (fun t =>
    t.eip = 0xFFF0#32 && t.raised = some ⟨.ud, none, 0xFFF0, none⟩) = true := by
  decide +kernel


/-! ## For every statement with hypotheses, a state and operands that meet them

One theorem for each statement, named after it; a conjunction where the statement has several clauses. -/

/-- With flat segments, no paging restriction and EFLAGS.AC 0, an access inside the address space is stopped by nothing. -/
theorem flat_reach {s : State} {w : Bool} {al : Align} {seg : Seg} {ea : Dword} {offs : List Nat}
    (hs : s.segs = ready.segs) (hp : s.plat.pages = [] ∧ s.plat.memTypes = []) (hc : s.eflags.getLsbD 18 = false)
    (ha : al = .must16 → ea.toNat % 16 = 0) (ho : ∀ o ∈ offs, ea.toNat + o < 0x100000000) : Reach s w al seg ea offs := by
  have hseg : s.segment seg = Segment.flat := by cases seg <;> simp [State.segment, hs, ready, State.launch]
  have hl : s.linear seg ea = ea.toNat := by simp [State.linear, hseg, Segment.flat]
  refine ⟨fun h => hl ▸ ha h, fun o ho' => ⟨?_, ?_⟩, ?_, ?_, fun o h => hl ▸ ho o h, fun o _ r h => by simp [hp.2] at h⟩
  · cases w <;> simp [rightOf, hseg, Segment.flat]
  · simp only [hseg, Segment.flat]; exact Nat.min_le_right ..
  · intro o _ p h; simp [rangeOf, hp.1] at h
  · intro _ h; exact absurd (hc.symm.trans h.2.1) (by decide)

theorem ready_m (x : Ext) : ReadyM x ready := ⟨by cases x <;> rfl, rfl, rfl, rfl⟩

theorem ready_x (x : Ext) : ReadyX x ready := ⟨by cases x <;> rfl, rfl, rfl, rfl⟩

theorem ready_xm (x : Ext) : ReadyXM x ready := ⟨ready_x x, rfl⟩

theorem ready_fx : ReadyFX .sse ready := ⟨rfl, rfl, rfl⟩

theorem ready_h (x : Ext) : ReadyH x ready := by cases x <;> rfl

theorem next_of {o : Host.Outcome State Fault Refusal} (h : gives o (fun _ => true) = true) : ∃ t, o = .next t :=
  (gives_iff h).imp fun _ h => h.1

/-- `paddb mm1, mm2` at `0x1000`. -/
def coded : State := ready.placeCode [0x0F, 0xFC, 0xCA]

theorem witness_StepKeepsInvariant : coded.Inv ∧ ∃ t, step coded = .next t := by
  refine ⟨?_, next_of (by decide +kernel)⟩
  unfold State.Inv
  decide +kernel

theorem witness_DecodeEncode :
    ((Instr.paddbMm 1 (.reg 2)).wellFormed = true ∧ Ext.mmx.has (klass (Instr.paddbMm 1 (.reg 2))).2 = true) ∧
    ((Instr.pinsrwXmm 1 (.mem ⟨.fs, none, some 5, 3, 0x12345678⟩) 0xFF).wellFormed = true ∧
      Ext.sse2.has (klass (Instr.pinsrwXmm 1 (.mem ⟨.fs, none, some 5, 3, 0x12345678⟩) 0xFF)).2 = true) := by decide

theorem witness_LockedOrLaterIsNotDecoded :
    (Instr.pause.wellFormed = true ∧ Ext.mmx.has (klass .pause).2 = true) ∧
    ((Instr.addpd 1 (.reg 2)).wellFormed = true ∧ Ext.sse2.has (klass (Instr.addpd 1 (.reg 2))).2 = true) ∧
    ((Instr.addpd 1 (.reg 2)).wellFormed = true ∧ Ext.sse.has (klass (Instr.addpd 1 (.reg 2))).2 = false) := by decide

/-- With flat segments, no paging, write-back memory and nothing stored, a byte inside the address space can be fetched. -/
theorem flat_fetchable {s : State} {k : Nat} (hs : s.segs = ready.segs) (hp : s.plat.pages = [] ∧ s.plat.memTypes = [])
    (hw : s.stored = []) (hk : s.eip.toNat + k < 2 ^ 32) : Fetchable s k (Memory.read s.mem (s.eip.toNat + k)) := by
  have hl : s.linear .cs s.eip = s.eip.toNat := by
    simp [State.linear, State.segment, hs, ready, State.launch, Segment.flat]
  have hr : ∀ a, rangeOf s a = none := fun a => by simp [rangeOf, hp.1]
  have hlim : s.segs.cs.limit.toNat = 0xFFFFFFFF := by simp [hs, ready, State.launch, Segment.flat]
  refine ⟨hk, by omega, by omega, fun p h => by simp [hr] at h, fun r h => by simp [hp.2] at h, fun ⟨r, h, _⟩ => by simp [hw] at h, ?_⟩
  simp only [hl, physOf, hr]
  rw [Nat.mod_eq_of_lt hk]

/-- The bytes that such a state can fetch: 15, or those up to the end of the address space. -/
theorem flat_window {s : State} {n : Nat} (hs : s.segs = ready.segs) (hp : s.plat.pages = [] ∧ s.plat.memTypes = [])
    (hw : s.stored = []) (hn : s.eip.toNat + n ≤ 2 ^ 32) (he : n = 15 ∨ (n < 15 ∧ s.eip.toNat + n = 2 ^ 32)) :
    Window s ((List.range n).map fun k => Memory.read s.mem (s.eip.toNat + k)) := by
  refine ⟨fun k b h => ?_, ?_⟩
  · rw [List.getElem?_map] at h
    obtain ⟨j, hj, rfl⟩ := Option.map_eq_some_iff.mp h
    obtain ⟨hlt, rfl⟩ := List.getElem?_eq_some_iff.mp hj
    simp only [List.length_range] at hlt
    simp only [List.getElem_range]
    exact flat_fetchable hs hp hw (by omega)
  · simp only [List.length_map, List.length_range]
    rcases he with h | ⟨h, h'⟩
    · exact .inl h
    · exact .inr ⟨h, _, .inl ⟨by omega, rfl⟩⟩

/-- The 15 bytes at `eip`, 0x1000, or as many as there are. -/
def from1000 (s : State) (n : Nat) : List Byte := (List.range n).map fun k => Memory.read s.mem (s.eip.toNat + k)

/-- The four answers of the decoder on 15 bytes: an instruction; the store form of MOVLPS with `mod` 3; zeros; fifteen prefixes. And
two bytes before the end of the address space that need more. -/
theorem witness_StepRunsDecoded :
    (coded.raised = none ∧ Window coded.drain (from1000 coded 15) ∧
      decode coded.plat.ext (from1000 coded 15) = .instr (.paddbMm 1 (.reg 2)) 3) ∧
    (Window (ready.placeCode [0x0F, 0x13, 0xC1]).drain (from1000 (ready.placeCode [0x0F, 0x13, 0xC1]) 15) ∧
      decode .sse2 (from1000 (ready.placeCode [0x0F, 0x13, 0xC1]) 15) = .undefined) ∧
    (Window ready.drain (from1000 ready 15) ∧ decode .sse2 (from1000 ready 15) = .refused .unknownOpcode) ∧
    (Window (ready.placeCode (List.replicate 15 0x66)).drain (from1000 (ready.placeCode (List.replicate 15 0x66)) 15) ∧
      decode .sse2 (from1000 (ready.placeCode (List.replicate 15 0x66)) 15) = .needMore ∧
      (from1000 (ready.placeCode (List.replicate 15 0x66)) 15).length = 15) ∧
    (Window (State.placeCode { ready with eip := 0xFFFFFFFE#32 } [0x0F, 0xFC]).drain
        (from1000 (State.placeCode { ready with eip := 0xFFFFFFFE#32 } [0x0F, 0xFC]) 2) ∧
      decode .sse2 (from1000 (State.placeCode { ready with eip := 0xFFFFFFFE#32 } [0x0F, 0xFC]) 2) = .needMore ∧
      FetchStops (State.placeCode { ready with eip := 0xFFFFFFFE#32 } [0x0F, 0xFC]) 2 (.refused .addressWrap)) := by
  refine ⟨⟨rfl, flat_window rfl ⟨rfl, rfl⟩ rfl (by decide) (.inl rfl), by decide +kernel⟩,
    ⟨flat_window rfl ⟨rfl, rfl⟩ rfl (by decide) (.inl rfl), by decide +kernel⟩,
    ⟨flat_window rfl ⟨rfl, rfl⟩ rfl (by decide) (.inl rfl), by decide +kernel⟩,
    ⟨flat_window rfl ⟨rfl, rfl⟩ rfl (by decide) (.inl rfl), by decide +kernel, rfl⟩,
    ⟨flat_window rfl ⟨rfl, rfl⟩ rfl (by decide) (.inr ⟨by decide, rfl⟩), by decide +kernel, .inl ⟨by decide, rfl⟩⟩⟩

/-- The launch state at `eip`, in a code segment with a base and a limit. -/
def inCode (eip base limit : Dword) : State :=
  { ready with eip := eip, segs := { ready.segs with cs := { Segment.flat with base := base, limit := limit } } }

/-- The other stops of a fetch, at the first byte, each just past its bound: the limit; linear address 2^32, at offset `k` 1; a page
that may be read and not fetched; uncacheable memory; a byte stored by this run. -/
theorem witness_StepRunsDecoded_stops :
    (∃ o, FetchStops (inCode 0x1001 0 0x1000) 0 o ∧ Window (inCode 0x1001 0 0x1000) []) ∧
    (∃ o, FetchStops (inCode 0x0FFF 0xFFFFF000 0x1000) 1 o) ∧
    (∃ o, FetchStops { ready with plat := { ready.plat with pages := [⟨1, 1, 1, true, [(3, .read)]⟩] } } 0 o) ∧
    (∃ o, FetchStops { ready with plat := { ready.plat with memTypes := [⟨0x1000, 0x1000, .uncacheable⟩] } } 0 o) ∧
    (∃ o, FetchStops { ready with stored := [(0x0FFF, 2)] } 0 o) := by
  have h : FetchStops (inCode 0x1001 0 0x1000) 0 _ := .inr (.inl ⟨by decide, by decide, rfl⟩)
  refine ⟨⟨_, h, fun _ _ h => by simp at h, .inr ⟨by decide, _, h⟩⟩, ⟨_, .inr (.inr (.inl ⟨by decide, by decide, rfl⟩))⟩,
    ⟨_, .inr (.inr (.inr (.inl ⟨by decide, by decide, ⟨1, 1, 1, true, [(3, .read)]⟩, by decide, fun h => ?_, rfl⟩)))⟩,
    ⟨_, .inr (.inr (.inr (.inr (.inl ⟨by decide, by decide, fun p h => ?_, fun h => ?_, rfl⟩))))⟩,
    ⟨_, .inr (.inr (.inr (.inr (.inr ⟨by decide, by decide, fun p h => ?_, fun p h => ?_, ⟨(0x0FFF, 2), by decide, by decide⟩, rfl⟩))))⟩⟩
  · exact absurd (h _ rfl).2 (by decide)
  · cases h
  · exact absurd (h ⟨0x1000, 0x1000, .uncacheable⟩ (by decide)) (by decide)
  · cases h
  · cases h

theorem fetched (k : Nat) (hk : k < 3) : coded.drain.fetchByte k = .ok (encode (.paddbMm 1 (.reg 2)))[k]! := by
  have h : ∀ k, k < 3 → (match coded.drain.fetchByte k with | .ok b => b == (encode (.paddbMm 1 (.reg 2)))[k]! | _ => false) = true := by
    decide +kernel
  have := h k hk
  split at this
  · next b hb => rw [hb, eq_of_beq this]
  · cases this

theorem witness_StepRunsEncodedBytes : coded.raised = none ∧ (Instr.paddbMm 1 (.reg 2)).wellFormed = true ∧
    coded.plat.ext.has (klass (Instr.paddbMm 1 (.reg 2))).2 = true ∧
    ∀ k b, (encode (.paddbMm 1 (.reg 2)))[k]? = some b → coded.drain.fetchByte k = .ok b := by
  refine ⟨rfl, rfl, rfl, fun k b h => ?_⟩
  match k, h with
  | 0, h => cases h; exact fetched 0 (by decide)
  | 1, h => cases h; exact fetched 1 (by decide)
  | 2, h => cases h; exact fetched 2 (by decide)
  | n + 3, h => cases h

/-- `emms` in the last two bytes of the code segment, with `cr0` as given. -/
def lastTwo (cr0 : Dword) : State := State.placeCode { ready with eip := 0xFFFFFFFE#32, cr0 := cr0 } [0x0F, 0x77]

/-- Clause 1 at the end of the address space, where `eip` comes to 0; clause 2 with `cr0.EM` 1. -/
theorem witness_EipAdvancesByLength :
    (∃ t, (lastTwo 0x11#32).raised = none ∧
      decode (lastTwo 0x11#32).plat.ext (lastTwo 0x11#32).drain.fetch.1 = .instr .emms 2 ∧
      step (lastTwo 0x11#32) = .next t ∧ t.raised = none ∧ t.eip = 0#32) ∧
    (∃ t, (lastTwo 0x15#32).raised = none ∧
      decode (lastTwo 0x15#32).plat.ext (lastTwo 0x15#32).drain.fetch.1 = .instr .emms 2 ∧
      step (lastTwo 0x15#32) = .next t ∧ ∃ r, t.raised = some r) := by
  refine ⟨?_, ?_⟩
  · obtain ⟨t, h, hp⟩ := gives_iff (o := step (lastTwo 0x11#32)) (p := fun t => t.raised = none && t.eip = 0#32)
      (by decide +kernel)
    simp only [Bool.and_eq_true, decide_eq_true_eq] at hp
    exact ⟨t, by decide +kernel, by decide +kernel, h, hp.1, hp.2⟩
  · obtain ⟨t, h, hp⟩ := gives_iff (o := step (lastTwo 0x15#32)) (p := fun t => t.raised.isSome) (by decide +kernel)
    exact ⟨t, by decide +kernel, by decide +kernel, h, Option.isSome_iff_exists.mp hp⟩

/-- Both values of DELIVER. -/
theorem witness_ExceptionEndsRun : ready.raised = none ∧ ready.plat.deliver = .endRun ∧
    { ready with plat := { ready.plat with deliver := .host } }.plat.deliver = .host := ⟨rfl, rfl, rfl⟩

/-- The launch state with other control bits and another processor. -/
def control (cr0 cr4 : Dword) (fsw : BitVec 16) (x : Ext) : State :=
  { ready with cr0 := cr0, cr4 := cr4, fsw := fsw, plat := { ready.plat with ext := x } }

/-- Class by class, one state for each exception: EM 1; TS 1; ES 1; OSFXSR 0; the feature absent. -/
theorem witness_AvailabilityExceptions :
    ((klass .emms).1 = .m ∧ (control 0x15 0 0 .mmx).cr0.getLsbD 2 = true ∧
      ((control 0x19 0 0 .mmx).plat.ext.has .mmx = true ∧ (control 0x19 0 0 .mmx).cr0.getLsbD 2 = false ∧
        (control 0x19 0 0 .mmx).cr0.getLsbD 3 = true) ∧
      ((control 0x11 0 0x80 .mmx).cr0.getLsbD 2 = false ∧ (control 0x11 0 0x80 .mmx).cr0.getLsbD 3 = false ∧
        (control 0x11 0 0x80 .mmx).fsw.getLsbD 7 = true)) ∧
    ((klass (.movaps .load 1 (.reg 2))).1 = .x ∧ (control 0x11 0 0 .sse).cr4.getLsbD 9 = false ∧
      ((control 0x19 0x200 0 .sse).plat.ext.has .sse = true ∧ (control 0x19 0x200 0 .sse).cr0.getLsbD 2 = false ∧
        (control 0x19 0x200 0 .sse).cr4.getLsbD 9 = true ∧ (control 0x19 0x200 0 .sse).cr0.getLsbD 3 = true)) ∧
    ((klass (.movdq2q 1 2)).1 = .xm ∧ (control 0x11 0x200 0 .sse).plat.ext.has .sse2 = false ∧
      ReadyX .sse2 (control 0x11 0x200 0x80 .sse2) ∧ (control 0x11 0x200 0x80 .sse2).fsw.getLsbD 7 = true) ∧
    ((klass (.fxsave (dsAt 0x2000))).1 = .fx ∧ (control 0x11 0 0 .mmx).plat.ext.has .sse = false ∧
      ((control 0x15 0 0 .sse).plat.ext.has .sse = true ∧ (control 0x15 0 0 .sse).cr0.getLsbD 2 = true)) ∧
    ((klass .lfence).1 = .h ∧ (control 0x11 0 0 .sse).plat.ext.has .sse2 = false) := by
  unfold ReadyX
  decide +kernel

/-- The data segment ends at `0x2003`. -/
def shortDs : State := { ready with segs := { ready.segs with ds := { Segment.flat with limit := 0x2003#32 } } }

/-- A page that is not present. -/
def hole : PageRange := ⟨3, 3, 3, false, [(3, .write)]⟩

/-- The launch state with that page. -/
def holed : State := { ready with plat := { ready.plat with pages := [hole] } }

/-- The launch state with the alignment check on. -/
def strict : State := { ready with cr0 := 0x40011#32, eflags := 0x40002#32 }

/-- The launch state with one write-combining byte. -/
def combining : State := { ready with plat := { ready.plat with memTypes := [⟨0x2007, 0x2007, .writeCombining⟩] } }

/-- The six clauses: MOVAPS not aligned; eight bytes of which the last is past the limit; of which the last is in a page that is
absent; not aligned under the alignment check; of which the last is past 2^32; of which the last is write-combining. -/
theorem witness_MemoryExceptionsInOrder :
    (touch (.movaps .load 1 (.mem (dsAt 0x2001))) ready = some ⟨.ds, 0x2001, List.range 16, false, .must16⟩ ∧
      Ready (.movaps .load 1 (.mem (dsAt 0x2001))) ready ∧ ready.linear .ds 0x2001 % 16 ≠ 0) ∧
    (touch (.paddbMm 1 (.mem (dsAt 0x1FFD))) shortDs = some ⟨.ds, 0x1FFD, List.range 8, false, .checked⟩ ∧
      Ready (.paddbMm 1 (.mem (dsAt 0x1FFD))) shortDs ∧
      ∃ o ∈ List.range 8, (shortDs.segment .ds).limit.toNat < min (0x1FFD + o) 0xFFFFFFFF) ∧
    (touch (.movqMm .store 1 (.mem (dsAt 0x2FF9))) holed = some ⟨.ds, 0x2FF9, List.range 8, true, .checked⟩ ∧
      Ready (.movqMm .store 1 (.mem (dsAt 0x2FF9))) holed ∧
      (rightOf (holed.segment .ds) true = true ∧
        ∀ o ∈ List.range 8, min (0x2FF9 + o) 0xFFFFFFFF ≤ (holed.segment .ds).limit.toNat) ∧
      rangeOf holed ((holed.linear .ds 0x2FF9 + 7) % 2 ^ 32) = some hole ∧
      ¬PageOpen holed (kindOf true) ((holed.linear .ds 0x2FF9 + 7) % 2 ^ 32) ∧
      ∀ o ∈ List.range 8, o < 7 → PageOpen holed (kindOf true) ((holed.linear .ds 0x2FF9 + o) % 2 ^ 32)) ∧
    (touch (.addss 1 (.mem (dsAt 0x2002))) strict = some ⟨.ds, 0x2002, List.range 4, false, .checked⟩ ∧
      Ready (.addss 1 (.mem (dsAt 0x2002))) strict ∧ AcOn strict ∧ strict.linear .ds 0x2002 % 4 ≠ 0 ∧
      strict.plat.pages = [] ∧ rightOf (strict.segment .ds) false = true ∧
      ∀ o ∈ List.range 4, min (0x2002 + o) 0xFFFFFFFF ≤ (strict.segment .ds).limit.toNat) ∧
    (touch (.movups .load 1 (.mem (dsAt 0xFFFFFFF1))) ready = some ⟨.ds, 0xFFFFFFF1, List.range 16, false, .checked⟩ ∧
      Ready (.movups .load 1 (.mem (dsAt 0xFFFFFFF1))) ready ∧ ¬AcOn ready ∧ ready.plat.pages = [] ∧
      rightOf (ready.segment .ds) false = true ∧
      (∀ o ∈ List.range 16, min (0xFFFFFFF1 + o) 0xFFFFFFFF ≤ (ready.segment .ds).limit.toNat) ∧
      ∃ o ∈ List.range 16, 2 ^ 32 ≤ ready.linear .ds 0xFFFFFFF1 + o) ∧
    (touch (.movlps .load 1 (dsAt 0x2000)) combining = some ⟨.ds, 0x2000, List.range 8, false, .checked⟩ ∧
      Ready (.movlps .load 1 (dsAt 0x2000)) combining ∧ ¬AcOn combining ∧ combining.plat.pages = [] ∧
      rightOf (combining.segment .ds) false = true ∧
      (∀ o ∈ List.range 8, min (0x2000 + o) 0xFFFFFFFF ≤ (combining.segment .ds).limit.toNat) ∧
      ¬WriteBack combining (combining.linear .ds 0x2000 + 7)) := by
  refine ⟨⟨rfl, ready_x _, by decide⟩, ⟨rfl, ready_m _, 7, by decide, by decide⟩,
    ⟨rfl, ready_m _, ⟨rfl, by decide⟩, by decide, fun h => ?_, fun o _ ho p hp => ?_⟩,
    ⟨rfl, ready_x _, ⟨rfl, rfl, rfl⟩, by decide, rfl, rfl, by decide⟩,
    ⟨rfl, ready_x _, fun h => absurd h.1 (by decide), rfl, rfl, by decide, 15, by decide, by decide⟩,
    ⟨rfl, ready_x _, fun h => absurd h.1 (by decide), rfl, rfl, by decide, fun h => ?_⟩⟩
  · exact absurd (h hole (by decide)).1 (by decide)
  · have hd : ∀ o, o < 7 → rangeOf holed ((holed.linear .ds 0x2FF9 + o) % 2 ^ 32) = none := by decide
    rw [hd o ho] at hp
    cases hp
  · exact absurd (h ⟨0x2007, 0x2007, .writeCombining⟩ (by decide)) (by decide)

/-- The masked stores: the first and the last of eight bytes selected, the last of them past the limit, and in a page that is
absent; none of sixteen selected, not even at the end of the address space. -/
theorem witness_MemoryExceptionsInOrder_masked :
    (∀ s ∈ [shortDs, holed], touch (.maskmovq 1 2 .ds) ((s.writeFpr 2 (0#16 ++ 0x8000000000000080#64)).writeGpr 7 0x2FF9) =
        some ⟨.ds, 0x2FF9, [0, 7], true, .free⟩) ∧
    Ready (.maskmovq 1 2 .ds) ((shortDs.writeFpr 2 (0#16 ++ 0x8000000000000080#64)).writeGpr 7 0x2FF9) ∧
    ((shortDs.segment .ds).limit.toNat < min (0x2FF9 + 7) 0xFFFFFFFF) ∧
    (¬PageOpen holed (kindOf true) (0x2FF9 + 7) ∧ PageOpen holed (kindOf true) (0x2FF9 + 0)) ∧
    (ReadyM .sse ready ∧ selected (ready.readMm 2) = []) ∧
    (ReadyX .sse2 (ready.writeGpr 7 0xFFFFFFFF) ∧ selected ((ready.writeGpr 7 0xFFFFFFFF).readXmm 2) = []) := by
  refine ⟨fun s hs => ?_, ready_m _, by decide, ⟨fun h => ?_, fun p h => ?_⟩, ⟨ready_m _, by decide +kernel⟩, ready_x _, by decide +kernel⟩
  · simp only [List.mem_cons, List.not_mem_nil, or_false] at hs
    have h7 : selected (0x8000000000000080#64 : Qword) = [0, 7] := by decide +kernel
    rcases hs with rfl | rfl <;> exact congrArg (fun l => some (Touch.mk .ds 0x2FF9 l true .free)) h7
  · exact absurd (h hole (by decide)).1 (by decide)
  · have hd : rangeOf holed (0x2FF9 + 0) = none := by decide
    rw [hd] at h
    cases h

/-- A signalling operand with the invalid operation unmasked. -/
def unmaskedI : State := { xmmState 0x3F800000#128 0x7F800001#128 with mxcsr := 0x1F00#32 }

/-- The largest number twice with overflow unmasked. -/
def unmaskedO : State := { xmmState 0x7F7FFFFF#128 0x7F7FFFFF#128 with mxcsr := 0x1B80#32 }

theorem witness_NumericFaults :
    (∃ r ∈ numeric 0, ∃ b, Ready (r.make 1 (.reg 2)) unmaskedI ∧ r.operand unmaskedI (.reg 2) b ∧
      ¬Masked unmaskedI.mxcsr (r.detected unmaskedI 1 b &&& 7#6)) ∧
    (∃ r ∈ numeric 0, ∃ b, Ready (r.make 1 (.reg 2)) unmaskedO ∧ r.operand unmaskedO (.reg 2) b ∧
      Masked unmaskedO.mxcsr (r.detected unmaskedO 1 b &&& 7#6) ∧ ¬Masked unmaskedO.mxcsr (r.detected unmaskedO 1 b)) := by
  refine ⟨⟨(numeric 0)[0], List.getElem_mem _, (0x7F800001#128 : Xmm), ready_x _, rfl, ?_⟩,
    ⟨(numeric 0)[0], List.getElem_mem _, (0x7F7FFFFF#128 : Xmm), ready_x _, rfl, ?_, ?_⟩⟩ <;> unfold Masked <;> decide +kernel

/-- An exception that is a page fault, and one that is not. -/
theorem witness_ExceptionChangesNothingElse :
    (∃ t r, ready.raised = none ∧ exec (.movaps .load 1 (.mem (dsAt 0x2001))) ready = .next t ∧ t.raised = some r ∧
      r.exn ≠ .pf) ∧
    (∃ t r, holed.raised = none ∧ exec (.movaps .load 1 (.mem (dsAt 0x3000))) holed = .next t ∧ t.raised = some r ∧
      r.exn = .pf) := by
  refine ⟨⟨_, _, rfl, rfl, rfl, by decide⟩, ⟨_, _, rfl, rfl, rfl, rfl⟩⟩

theorem witness_ControlStateIsNeverWritten : ∃ t, exec .emms ready = .next t := ⟨_, rfl⟩

theorem witness_EflagsOnlyByCompares :
    (∃ t, exec (.ucomiss 1 (.reg 2)) ready = .next t) ∧ ∃ t, exec (.paddbMm 1 (.reg 2)) ready = .next t :=
  ⟨next_of (by decide +kernel), next_of (by decide +kernel)⟩

theorem witness_MxcsrFlagsAreSticky : ∃ t, exec (.divss 1 (.reg 2)) ready = .next t := next_of (by decide +kernel)

/-- EMMS; an instruction with an MMX destination; one that only reads an MMX register; one with none. -/
theorem witness_X87SideEffects :
    ready.raised = none ∧ (∃ t, exec .emms ready = .next t ∧ t.raised = none) ∧
    (∃ t, exec (.paddbMm 1 (.reg 2)) ready = .next t ∧ t.raised = none) ∧
    (∃ t, exec (.movdMm .store 1 (.reg 2)) ready = .next t ∧ t.raised = none) ∧
    (∃ t, exec (.movaps .load 1 (.reg 2)) ready = .next t ∧ t.raised = none) := by
  refine ⟨rfl, ⟨_, rfl, rfl⟩, ⟨_, rfl, rfl⟩, ⟨_, rfl, rfl⟩, ⟨_, rfl, rfl⟩⟩

theorem witness_RegisterFilesKept :
    ((∃ t, exec (.pmovmskbMm 3 2) ready = .next t) ∧ gprDest (.pmovmskbMm 3 2) ≠ some 4) ∧
    ((∃ t, exec (.movaps .store 1 (.reg 2)) ready = .next t) ∧ xmmDest (.movaps .store 1 (.reg 2)) ≠ some 1) ∧
    (∃ t, exec (.fxsave (dsAt 0x2000)) ready = .next t) ∧ xmmDest (.fxsave (dsAt 0x2000)) = none :=
  ⟨⟨⟨_, rfl⟩, by decide⟩, ⟨⟨_, rfl⟩, by decide⟩, next_of (by decide +kernel), rfl⟩

theorem witness_PrivilegeDoesNotMatter : ready.plat.pages = [] ∧ ready.cr0.getLsbD 18 = false := ⟨rfl, rfl⟩

/-- A buffer that stores one byte twice. -/
def rewritten : State := { ready with sb := [.store false 0x2000 [2, 3], .store true 0x2001 [5], .sf] }

/-- Each form of the first half; a byte stored twice, one stored by none. -/
theorem witness_StoresWaitInBuffer :
    ((∃ older newer, rewritten.sb = older ++ .store true 0x2001 [5] :: newer ∧
        (SbEntry.store true 0x2001 [5]).byteAt (physOf rewritten 0x2001) = some 5 ∧
        ∀ f ∈ newer, f.byteAt (physOf rewritten 0x2001) = none) ∧
      ∀ e ∈ rewritten.sb, e.byteAt (physOf rewritten 0x2002) = none) ∧
    (∃ t, exec .mfence ready = .next t) ∧ (∃ t, exec .sfence ready = .next t) ∧
    ∃ t, exec (.movnti 1 (dsAt 0x2000)) ready = .next t :=
  ⟨⟨⟨[.store false 0x2000 [2, 3]], [.sf], rfl, by decide, by decide⟩, by decide⟩, next_of (by decide +kernel),
    next_of (by decide +kernel), next_of (by decide +kernel)⟩

/-- A buffer of an ordinary store, a non-temporal one next to it, and one that shares its last byte with the first. -/
def buffered : State :=
  { holding 0x2000 [1] with sb := [.store false 0x2000 [2, 3], .store true 0x2002 [4], .store true 0x2001 [5]] }

theorem witness_DrainIsInvisible : Memory.wf buffered.mem = true := by decide

/-- Held by an entry that shares one byte; not held by one that ends where it begins. -/
theorem witness_DrainRule :
    (buffered.sb[2]? = some (.store true 0x2001 [5]) ∧ ∃ f ∈ buffered.sb.take 2,
      (f.byteAt 0x2001).isSome = true ∧ ((SbEntry.store true 0x2001 [5]).byteAt 0x2001).isSome = true) ∧
    (buffered.sb[1]? = some (.store true 0x2002 [4]) ∧ ([4] : List Byte) ≠ [] ∧
      (∀ f ∈ buffered.sb, ∀ nt' a' bs', f = .store nt' a' bs' → bs' ≠ []) ∧
      ¬∃ f ∈ buffered.sb.take 1,
        f = .sf ∨ (∃ x, (f.byteAt x).isSome = true ∧ ((SbEntry.store true 0x2002 [4]).byteAt x).isSome = true) ∨
          ((∃ a b, f = .store false a b) ∧ ∃ a b, SbEntry.store true 0x2002 [4] = .store false a b)) := by
  refine ⟨⟨rfl, _, List.mem_cons_self .., rfl, rfl⟩, rfl, by decide, ?_, ?_⟩
  · intro f hf nt' a' bs' h
    simp only [buffered, List.mem_cons, List.not_mem_nil, or_false] at hf
    rcases hf with rfl | rfl | rfl <;> cases h <;> decide
  · rintro ⟨f, hf, h⟩
    simp only [buffered, List.take, List.mem_cons, List.not_mem_nil, or_false] at hf
    subst hf
    rcases h with h | ⟨x, h1, h2⟩ | ⟨-, a, b, h⟩
    · cases h
    · simp only [SbEntry.byteAt] at h1 h2
      split at h1
      · split at h2
        · have : x - 0x2000 < 2 := by simpa using h1
          omega
        · simp at h2
      · simp at h1
    · cases h

/-- With a pending store, and with none. -/
theorem witness_StoreFences :
    (ReadyH .sse buffered ∧ fenceNotFirst buffered.sb = true ∧ buffered.sb ≠ []) ∧ (ReadyH .sse ready ∧ ready.sb = []) ∧
    ReadyH .sse2 buffered ∧ Memory.wf buffered.mem = true := by
  refine ⟨⟨rfl, rfl, by decide⟩, ⟨rfl, rfl⟩, rfl, by decide⟩

theorem witness_HintsChangeNothing :
    ReadyH .sse ready ∧ ReadyH .sse2 ready ∧ CanRead ready .free (dsAt 0xFFFFFFFF) 1 :=
  ⟨rfl, rfl, flat_reach rfl ⟨rfl, rfl⟩ rfl (by decide) (by decide)⟩

theorem witness_LinearAddress : (ready.segment (dsAt 0).seg).base = 0#32 := rfl

/-- A register source, and memory at an odd address; the same for the low unpacks. -/
theorem witness_MmxTwoOperand :
    (∃ r ∈ mmRows 0, ReadyM r.ext ready ∧ Holds ready .checked ready.readMm (.reg 2) (0#64 : Qword)) ∧
    (∃ r ∈ mmRows 0, ReadyM r.ext (holding 0x2001 [1, 2]) ∧
      Holds (holding 0x2001 [1, 2]) .checked (holding 0x2001 [1, 2]).readMm (.mem (dsAt 0x2001)) (0x201#64 : Qword)) ∧
    ∃ r ∈ mmLowRows, ReadyM r.ext (holding 0x2001 [1, 2]) ∧
      Holds (holding 0x2001 [1, 2]) .checked (holding 0x2001 [1, 2]).readMm (.mem (dsAt 0x2001)) (0x201#32 : Dword) := by
  refine ⟨⟨(mmRows 0)[0], List.getElem_mem _, ready_m _, rfl⟩,
    ⟨(mmRows 0)[0], List.getElem_mem _, ready_m _, flat_reach rfl ⟨rfl, rfl⟩ rfl (by decide) (by decide), by unfold Spells; decide⟩,
    ⟨mmLowRows[0], List.getElem_mem _, ready_m _, flat_reach rfl ⟨rfl, rfl⟩ rfl (by decide) (by decide), by unfold Spells; decide⟩⟩

/-- A count in a register, past the lane; an immediate. -/
theorem witness_MmxShifts :
    (∃ r ∈ shifts, ReadyM .mmx (mmState 0 16) ∧ MmCount (mmState 0 16) (.rm (.reg 2)) 16 ∧ r = shifts[0]) ∧
    (ReadyM .mmx ready ∧ MmCount ready (.imm 0xFF) 255) :=
  ⟨⟨shifts[0], List.getElem_mem _, ready_m _, ⟨16#64, rfl, rfl⟩, rfl⟩, ready_m _, rfl⟩

theorem witness_MmxWordsAndMask :
    ReadyM .sse ready ∧ Holds ready .checked ready.readGpr (.reg 2) (0#16 : BitVec 16) ∧
    Holds ready .checked ready.readGpr (.mem (dsAt 0xFFFFFFFE)) (0#16 : BitVec 16) :=
  ⟨ready_m _, rfl, flat_reach rfl ⟨rfl, rfl⟩ rfl (by decide) (by decide), by unfold Spells; decide⟩

theorem witness_MmxMoves :
    ReadyM .mmx ready ∧ Holds ready .checked ready.readGpr (.reg 2) (0#32 : Dword) ∧
    Holds ready .checked ready.readMm (.reg 2) (0#64 : Qword) ∧
    Holds ready .checked ready.readMm (.mem (dsAt 0xFFFFFFF8)) (0#64 : Qword) ∧ ReadyXM .sse2 ready :=
  ⟨ready_m _, rfl, rfl, ⟨flat_reach rfl ⟨rfl, rfl⟩ rfl (by decide) (by decide), by unfold Spells; decide⟩, ready_xm _⟩

theorem witness_EmmsEmptiesTags : ReadyM .mmx ready := ready_m _

/-- A register source, and memory at the last aligned address. -/
theorem witness_XmmTwoOperand :
    (∃ r ∈ xmmRows 0, ReadyX r.ext ready ∧ Holds ready .must16 ready.readXmm (.reg 2) (0#128 : Xmm)) ∧
    (∃ r ∈ xmmRows 0, ReadyX r.ext ready ∧ Holds ready .must16 ready.readXmm (.mem (dsAt 0xFFFFFFF0)) (0#128 : Xmm)) := by
  refine ⟨⟨(xmmRows 0)[0], List.getElem_mem _, ready_x _, rfl⟩,
    ⟨(xmmRows 0)[0], List.getElem_mem _, ready_x _, flat_reach rfl ⟨rfl, rfl⟩ rfl (by decide) (by decide), by unfold Spells; decide⟩⟩

theorem witness_XmmShifts :
    (∃ r ∈ shifts, ReadyX .sse2 (xmmState 0 16) ∧ XmmCount (xmmState 0 16) (.rm (.reg 2)) 16 ∧ r = shifts[0]) ∧
    (ReadyX .sse2 ready ∧ XmmCount ready (.imm 0xFF) 255) :=
  ⟨⟨shifts[0], List.getElem_mem _, ready_x _, ⟨16#128, rfl, rfl⟩, rfl⟩, ready_x _, rfl⟩

theorem witness_XmmWordsAndMasks :
    ReadyX .sse2 ready ∧ Holds ready .checked ready.readGpr (.reg 2) (0#16 : BitVec 16) ∧ ReadyX .sse ready :=
  ⟨ready_x _, rfl, ready_x _⟩

/-- MOVUPS from an odd address; MOVAPS from a register. -/
theorem witness_XmmFullMoves :
    (∃ r ∈ moves16, ReadyX r.1 ready ∧ Holds ready r.2.1 ready.readXmm (.mem (dsAt 0x2001)) (0#128 : Xmm)) ∧
    ∃ r ∈ moves16, ReadyX r.1 ready ∧ Holds ready r.2.1 ready.readXmm (.reg 2) (0#128 : Xmm) := by
  refine ⟨⟨moves16[1], List.getElem_mem _, ready_x _, flat_reach rfl ⟨rfl, rfl⟩ rfl (by decide) (by decide), by unfold Spells; decide⟩,
    ⟨moves16[0], List.getElem_mem _, ready_x _, rfl⟩⟩

theorem witness_XmmScalarMoves :
    ∃ r ∈ scalarMoves, ReadyX r.ext ready ∧ CanRead ready .checked (dsAt 0x2001) (r.width / 8) ∧
      Spells ready (place ready (dsAt 0x2001)) (0 : BitVec r.width) := by
  refine ⟨scalarMoves[0], List.getElem_mem _, ready_x _, flat_reach rfl ⟨rfl, rfl⟩ rfl (by decide) (by decide), ?_⟩
  unfold Spells
  decide

theorem witness_XmmHalfMoves :
    (∃ r ∈ halfMoves, ReadyX r.1 ready ∧ CanRead ready .checked (dsAt 0x2001) 8 ∧
      Spells ready (place ready (dsAt 0x2001)) (0#64 : Qword)) ∧ ReadyX .sse ready := by
  refine ⟨⟨halfMoves[0], List.getElem_mem _, ready_x _, flat_reach rfl ⟨rfl, rfl⟩ rfl (by decide) (by decide), ?_⟩, ready_x _⟩
  unfold Spells
  decide

theorem witness_XmmLowMoves :
    ReadyX .sse2 ready ∧ Holds ready .checked ready.readGpr (.reg 2) (0#32 : Dword) ∧
    Holds ready .checked ready.readXmm (.reg 2) (0#64 : Qword) ∧
    Holds ready .checked ready.readGpr (.mem (dsAt 0xFFFFFFFC)) (0#32 : Dword) :=
  ⟨ready_x _, rfl, rfl, flat_reach rfl ⟨rfl, rfl⟩ rfl (by decide) (by decide), by unfold Spells; decide⟩

/-- A form with an MMX register and one with an XMM register, at the last address each can have. -/
theorem witness_RegisterStores :
    (∃ r ∈ stores, Ready (r.make 1 (dsAt 0xFFFFFFFC)) ready ∧ CanWrite ready r.align (dsAt 0xFFFFFFFC) (r.width / 8)) ∧
    ∃ r ∈ stores, Ready (r.make 1 (dsAt 0xFFFFFFF0)) ready ∧ CanWrite ready r.align (dsAt 0xFFFFFFF0) (r.width / 8) := by
  refine ⟨⟨stores[0], List.getElem_mem _, ready_m _, flat_reach rfl ⟨rfl, rfl⟩ rfl (by decide) (by decide)⟩,
    ⟨stores[3], List.getElem_mem _, ready_x _, flat_reach rfl ⟨rfl, rfl⟩ rfl (by decide) (by decide)⟩⟩

/-- The mask selects the first and the last byte; no byte, at the end of the address space. -/
theorem witness_MaskedStoresWriteSelectedBytes :
    (ReadyM .sse (mmState 0 0x8000000000000080) ∧ Reach (mmState 0 0x8000000000000080) true .free .ds
      ((mmState 0 0x8000000000000080).readGpr 7) (selected ((mmState 0 0x8000000000000080).readMm 2))) ∧
    (ReadyX .sse2 (ready.writeGpr 7 0xFFFFFFFF#32) ∧ Reach (ready.writeGpr 7 0xFFFFFFFF#32) true .free .ds
      ((ready.writeGpr 7 0xFFFFFFFF#32).readGpr 7) (selected ((ready.writeGpr 7 0xFFFFFFFF#32).readXmm 2))) :=
  ⟨⟨ready_m _, flat_reach rfl ⟨rfl, rfl⟩ rfl (by decide) (by decide +kernel)⟩,
    ready_x _, flat_reach rfl ⟨rfl, rfl⟩ rfl (by decide) (by decide +kernel)⟩

/-- LDMXCSR of a value without and with a reserved bit; FXRSTOR of an image with one. -/
theorem witness_MxcsrLoadChecksReservedBits :
    (ReadyX .sse ready ∧ CanRead ready .checked (dsAt 0x2001) 4 ∧ Spells ready (place ready (dsAt 0x2001)) (0#32 : Dword) ∧
      (0#32 : Dword) &&& ~~~(if ready.plat.daz then 0xFFFF#32 else 0xFFBF#32) = 0#32) ∧
    (Spells (holding 0x2003 [1]) (place (holding 0x2003 [1]) (dsAt 0x2001)) (0x10000#32 : Dword) ∧
      (0x10000#32 : Dword) &&& ~~~(if (holding 0x2003 [1]).plat.daz then 0xFFFF#32 else 0xFFBF#32) ≠ 0#32) ∧
    (ReadyFX .sse (holding 0x201A [1]) ∧ (holding 0x201A [1]).cr4.getLsbD 9 = true ∧
      CanRead (holding 0x201A [1]) .must16 (dsAt 0x2000) 512 ∧
      Spells (holding 0x201A [1]) (place (holding 0x201A [1]) (dsAt 0x2000) + 24) (0x10000#32 : Dword)) := by
  refine ⟨⟨ready_x _, flat_reach rfl ⟨rfl, rfl⟩ rfl (by decide) (by decide), by unfold Spells; decide, by decide⟩,
    ⟨by unfold Spells; decide, by decide⟩,
    ready_fx, rfl, flat_reach rfl ⟨rfl, rfl⟩ rfl (by decide) (by decide +kernel), by unfold Spells; decide⟩

/-- At the last address an image can have, with `cr4.OSFXSR` 1 and 0. -/
theorem witness_FxsaveImage :
    (ReadyFX .sse ready ∧ CanWrite ready .must16 (dsAt 0xFFFFFE00) 512 ∧ ready.cr4.getLsbD 9 = true) ∧
    (ReadyFX .sse (control 0x11 0 0 .sse) ∧ CanWrite (control 0x11 0 0 .sse) .must16 (dsAt 0xFFFFFE00) 512 ∧
      (control 0x11 0 0 .sse).cr4.getLsbD 9 = false) :=
  ⟨⟨ready_fx, flat_reach rfl ⟨rfl, rfl⟩ rfl (by decide) (by decide +kernel), rfl⟩,
    ready_fx, flat_reach rfl ⟨rfl, rfl⟩ rfl (by decide) (by decide +kernel), rfl⟩

theorem witness_FxrstorLoads :
    ReadyFX .sse ready ∧ CanRead ready .must16 (dsAt 0xFFFFFE00) 512 ∧
    Spells ready (place ready (dsAt 0xFFFFFE00) + 24) (0#32 : Dword) ∧
    Spells ready (place ready (dsAt 0xFFFFFE00) + 4) (0#8 : Byte) ∧
    Spells ready (place ready (dsAt 0xFFFFFE00) + 6) (0#16 : BitVec 16) ∧
    (ready.cr4.getLsbD 9 = true → (0#32 : Dword) &&& ~~~(if ready.plat.daz then 0xFFFF#32 else 0xFFBF#32) = 0#32) := by
  unfold Spells
  exact ⟨ready_fx, flat_reach rfl ⟨rfl, rfl⟩ rfl (by decide) (by decide +kernel), by decide, by decide, by decide, by decide⟩

theorem witness_FxsaveFxrstorRoundTrip :
    ReadyFX .sse ready ∧ CanWrite ready .must16 (dsAt 0xFFFFFE00) 512 ∧ CanRead ready .must16 (dsAt 0xFFFFFE00) 512 ∧
    ready.mxcsr &&& ~~~(if ready.plat.daz then 0xFFFF#32 else 0xFFBF#32) = 0#32 :=
  ⟨ready_fx, flat_reach rfl ⟨rfl, rfl⟩ rfl (by decide) (by decide +kernel), flat_reach rfl ⟨rfl, rfl⟩ rfl (by decide) (by decide +kernel),
    by decide⟩

/-- With every condition masked any operand will do: here `1 + 0`, in registers and from memory. -/
theorem masked_all {mx : Dword} (h : mx.extractLsb' 7 6 = 0x3F#6) (c : BitVec 6) : Masked mx c := by
  unfold Masked
  rw [h]
  revert c
  decide

theorem witness_FpPackedResults :
    ∃ r ∈ fpRows 0, ReadyX r.ext ready ∧ Holds ready .must16 ready.readXmm (.mem (dsAt 0x2000)) (0#128 : Xmm) ∧
      Masked ready.mxcsr (together (128 / r.n) fun i =>
        (r.lanes ready.mxcsr (lane r.n i (ready.readXmm 1)) (lane r.n i (0#128 : Xmm))).conditions) := by
  refine ⟨(fpRows 0)[0], List.getElem_mem _, ready_x _,
    ⟨flat_reach rfl ⟨rfl, rfl⟩ rfl (by decide) (by decide), by unfold Spells; decide⟩, masked_all rfl _⟩

theorem witness_FpScalarResults :
    ∃ r ∈ fpRows 0, ReadyX r.ext ready ∧ Holds ready .checked ready.readXmm (.mem (dsAt 0x2001)) (0 : BitVec r.n) ∧
      Masked ready.mxcsr (r.lanes ready.mxcsr (lane r.n 0 (ready.readXmm 1)) 0).conditions := by
  refine ⟨(fpRows 0)[0], List.getElem_mem _, ready_x _,
    ⟨flat_reach rfl ⟨rfl, rfl⟩ rfl (by decide) (by decide), by unfold Spells; decide⟩, masked_all rfl _⟩

theorem witness_CompareSetsEflags :
    ∃ r ∈ comiRows, ReadyX r.ext ready ∧ Holds ready .checked ready.readXmm (.reg 2) (0 : BitVec r.n) ∧
      Masked ready.mxcsr (compareDetects r.f r.anyNan (daz r.f ready.mxcsr (lane r.n 0 (ready.readXmm 1)))
        (daz r.f ready.mxcsr 0)) :=
  ⟨comiRows[0], List.getElem_mem _, ready_x _, rfl, masked_all rfl _⟩

theorem witness_ConversionsToXmm :
    (∃ r ∈ cvtRows, ReadyX .sse2 ready ∧ Holds ready r.align ready.readXmm (.reg 2) (0 : BitVec r.w) ∧
      Masked ready.mxcsr (together r.c fun i => (r.lanes ready.mxcsr (lane r.m i (0 : BitVec r.w))).conditions)) ∧
    (∃ r ∈ cvtScalarRows, ReadyX r.ext ready ∧ Holds ready .checked ready.readXmm (.reg 2) (0 : BitVec r.m) ∧
      Masked ready.mxcsr (r.lanes ready.mxcsr 0).conditions) ∧
    (∃ r ∈ cvtFromGprRows, ReadyX r.ext ready ∧ Holds ready .checked ready.readGpr (.reg 2) (0 : BitVec r.m) ∧
      Masked ready.mxcsr (r.lanes ready.mxcsr 0).conditions) :=
  ⟨⟨cvtRows[0], List.getElem_mem _, ready_x _, rfl, masked_all rfl _⟩,
    ⟨cvtScalarRows[0], List.getElem_mem _, ready_x _, rfl, masked_all rfl _⟩,
    ⟨cvtFromGprRows[0], List.getElem_mem _, ready_x _, rfl, masked_all rfl _⟩⟩

theorem witness_ConversionsToGpr :
    ∃ r ∈ cvtToGprRows, ReadyX r.ext ready ∧ Holds ready .checked ready.readXmm (.reg 2) (0 : BitVec r.m) ∧
      Masked ready.mxcsr (r.lanes ready.mxcsr 0).conditions :=
  ⟨cvtToGprRows[0], List.getElem_mem _, ready_x _, rfl, masked_all rfl _⟩

theorem witness_ConversionsWithMmx :
    (∃ r ∈ cvtToMmRows, ReadyXM r.ext ready ∧ Holds ready r.align ready.readXmm (.reg 2) (0 : BitVec r.w) ∧
      Masked ready.mxcsr (together 2 fun i => (r.lanes ready.mxcsr (lane r.m i (0 : BitVec r.w))).conditions)) ∧
    (ReadyXM .sse ready ∧ Holds ready .checked ready.readMm (.reg 2) (0#64 : Qword) ∧
      Masked ready.mxcsr (together 2 fun i => (i2f single ready.mxcsr (lane 32 i (0#64 : Qword))).conditions)) ∧
    (Ready (.cvtpi2pd 1 (.reg 2)) ready ∧ Holds ready .checked ready.readMm (.reg 2) (0#64 : Qword)) ∧
    (Ready (.cvtpi2pd 1 (.mem (dsAt 0xFFFFFFF8))) ready ∧
      Holds ready .checked ready.readMm (.mem (dsAt 0xFFFFFFF8)) (0#64 : Qword)) := by
  refine ⟨⟨cvtToMmRows[0], List.getElem_mem _, ready_xm _, rfl, masked_all rfl _⟩, ⟨ready_xm _, rfl, masked_all rfl _⟩,
    ⟨ready_xm _, rfl⟩, ready_x _, flat_reach rfl ⟨rfl, rfl⟩ rfl (by decide) (by decide), by unfold Spells; decide⟩

/-- First operand a NaN; second alone; each of both formats. -/
theorem witness_NanOperandIsQuieted :
    single.isNan 0x7F800001#32 = true ∧ (single.isNan 0x3F800000#32 = false ∧ single.isNan 0xFFFFFFFF#32 = true) ∧
    double.isNan 0x7FF0000000000001#64 = true ∧
    (double.isNan 0x3FF0000000000000#64 = false ∧ double.isNan 0xFFFFFFFFFFFFFFFF#64 = true) := by decide +kernel

/-- Infinities of both signs, zeros, a finite dividend, a negative square, an integer out of range; single, then double. -/
theorem witness_InvalidOperationGivesIndefinite :
    (single.isInf 0x7F800000#32 = true ∧ single.isInf 0xFF800000#32 = true ∧ (0x7F800000#32).msb ≠ (0xFF800000#32).msb ∧
      single.isZero (daz single 0x40#32 0x00000001#32) = true ∧
      (IsFinite single 0x3F800000#32 ∧ single.isZero (daz single 0#32 0x3F800000#32) = false ∧
        single.isZero (daz single 0#32 0x80000000#32) = true) ∧
      (single.isNan 0xBF800000#32 = false ∧ single.isZero (daz single 0#32 0xBF800000#32) = false ∧
        (0xBF800000#32).msb = true) ∧
      (fadd single 0#32 0x7F800000#32 0xFF800000#32).conditions.getLsbD 0 = true ∧
      (fsqrt single 0#32 0xBF800000#32).conditions.getLsbD 0 = true ∧
      (f2i single 0#32 0#2 0x4F000000#32).conditions.getLsbD 0 = true) ∧
    (double.isInf 0x7FF0000000000000#64 = true ∧ double.isInf 0xFFF0000000000000#64 = true ∧
      double.isZero (daz double 0x40#32 0x1#64) = true ∧
      (IsFinite double 0x3FF0000000000000#64 ∧ double.isZero (daz double 0#32 0x3FF0000000000000#64) = false) ∧
      (double.isNan 0xBFF0000000000000#64 = false ∧ (0xBFF0000000000000#64).msb = true) ∧
      (fmul double 0#32 0#64 0x7FF0000000000000#64).conditions.getLsbD 0 = true ∧
      (f2i double 0#32 0#2 0x41E0000000000000#64).conditions.getLsbD 0 = true) := by
  unfold IsFinite
  decide +kernel

theorem witness_MinMaxPickOneOperand :
    single.isNan 0x7F800001#32 = true ∧ single.isNan 0x80000000#32 = false ∧ double.isNan 0x7FF0000000000001#64 = true ∧
    double.isNan 0x8000000000000000#64 = false := by decide +kernel

/-- `1 + 2^-24` in single, a tie, under each rounding mode: neither an overflow nor a flush; a denormal operand under DAZ, whose
product is then zero; infinities; `1 / 3` in double. -/
theorem witness_ArithmeticIsCorrectlyRounded :
    (IsFinite single 0x3F800000#32 ∧ IsFinite single 0x33800000#32 ∧
      single.value (daz single 0x1F80#32 0x3F800000#32) + single.value (daz single 0x1F80#32 0x33800000#32) ≠ 0 ∧
      ∀ rc : BitVec 2, ¬Overflows single rc (single.value 0x3F800000#32 + single.value 0x33800000#32) 1 ∧
        ¬Tiny single rc (single.value 0x3F800000#32 + single.value 0x33800000#32) 1) ∧
    (IsFinite single 0x00000001#32 ∧
      single.value (daz single 0x1FC0#32 0x00000001#32) * single.value (daz single 0x1FC0#32 0x3F800000#32) = 0) ∧
    (single.isNan 0x7F800000#32 = false ∧ single.isInf 0x7F800000#32 = true ∧ single.isInf 0x00000001#32 = false ∧
      single.isZero (daz single 0#32 0x00000001#32) = false ∧ single.isZero 0x80000000#32 = true ∧
      single.value 0x80000000#32 + single.value 0#32 = 0) ∧
    (IsFinite double 0x3FF0000000000000#64 ∧ IsFinite double 0x4008000000000000#64 ∧
      double.value 0x3FF0000000000000#64 ≠ 0 ∧ double.value 0x4008000000000000#64 ≠ 0) := by
  unfold IsFinite Overflows Tiny Away largest lastPlace
  decide +kernel

/-- What the four rounding modes are in MXCSR, with DAZ 0 and FZ 0. -/
theorem witness_rounding_modes :
    ((0x1F80#32).extractLsb' 13 2 = 0#2 ∧ (0x3F80#32).extractLsb' 13 2 = 1#2 ∧ (0x5F80#32).extractLsb' 13 2 = 2#2 ∧
      (0x7F80#32).extractLsb' 13 2 = 3#2) ∧
    ((0x7F80#32).getLsbD 6 = false ∧ (0x7F80#32).getLsbD 15 = false) := by decide +kernel

/-- The smallest number of each format, the largest of single, 3 in double; each rounding mode by `witness_rounding_modes`. -/
theorem witness_SquareRootIsCorrectlyRounded :
    (single.isZero (daz single 0x40#32 0x80000001#32) = true ∧ single.isInf 0x7F800000#32 = true ∧ (0x7F800000#32).msb = false) ∧
    (IsFinite single 0x00000001#32 ∧ 0 < single.value 0x00000001#32) ∧
    (IsFinite single 0x7F7FFFFF#32 ∧ 0 < single.value 0x7F7FFFFF#32) ∧
    (IsFinite double 0x0000000000000001#64 ∧ 0 < double.value 0x0000000000000001#64) ∧
    (IsFinite double 0x4008000000000000#64 ∧ 0 < double.value 0x4008000000000000#64) :=
  ⟨by decide +kernel, ⟨⟨by decide +kernel, by decide +kernel⟩, by decide +kernel⟩,
    ⟨⟨by decide +kernel, by decide +kernel⟩, by decide +kernel⟩, ⟨⟨by decide +kernel, by decide +kernel⟩, by decide +kernel⟩, ⟨by decide +kernel, by decide +kernel⟩, by decide +kernel⟩

/-- Where a result begins to overflow, and where it does not yet: the largest number of single and half a last place above it, to
nearest; the smallest denormal above it, upward; a whole last place above it, toward zero. That sum is inexact in the first
case, and needs no rounding in the last. -/
theorem witness_OverflowAndFlushToZero :
    (IsFinite single 0x7F7FFFFF#32 ∧ IsFinite single 0x73000000#32 ∧ IsFinite single 0x72FFFFFF#32) ∧
    (Overflows single 0#2 (single.value 0x7F7FFFFF#32 + single.value 0x73000000#32) 1 ∧
      ¬Overflows single 0#2 (single.value 0x7F7FFFFF#32 + single.value 0x72FFFFFF#32) 1) ∧
    (Overflows single 2#2 (single.value 0x7F7FFFFF#32 + single.value 0x00000001#32) 1 ∧
      ¬Overflows single 2#2 (single.value 0x7F7FFFFF#32) 1) ∧
    (Overflows single 3#2 (single.value 0x7F7FFFFF#32 + single.value 0x73800000#32) 1 ∧
      ¬Overflows single 3#2 (single.value 0x7F7FFFFF#32 + single.value 0x73000000#32) 1) ∧
    (Overflows double 0#2 (double.value 0x7FEFFFFFFFFFFFFF#64 + double.value 0x7FEFFFFFFFFFFFFF#64) 1) := by
  unfold IsFinite Overflows Away largest lastPlace
  and_intros <;> decide +kernel

/-- An overflow that needs no rounding, with OM 0. -/
theorem witness_OverflowAndFlushToZero_short :
    Short single (single.value 0x7F7FFFFF#32 + single.value 0x73800000#32) 1 ∧ (0x1B80#32).getLsbD 10 = false :=
  ⟨⟨1, 277, by decide, by decide +kernel⟩, by decide⟩

/-- Tiny and not tiny: half the smallest normal number of single, which flushes with FZ and UM 1; a quarter of a unit below the
smallest normal one, `(2^25 - 1) / 4` units, which rounds up to it but toward zero, and below that; half a unit below it,
upward; the smallest normal number itself; in double, with UM 0. -/
theorem witness_OverflowAndFlushToZero_tiny :
    (IsFinite single 0x00800000#32 ∧ IsFinite single 0x3F000000#32 ∧
      Flushes single 0x9F80#32 (single.value 0x00800000#32 * single.value 0x3F000000#32) (2 ^ single.scale)) ∧
    (Tiny single 0#2 (2 ^ 25 - 2) 4 ∧ ¬Tiny single 0#2 (2 ^ 25 - 1) 4 ∧ Tiny single 2#2 (2 ^ 24 - 1) 2 ∧
      ¬Tiny single 2#2 (2 ^ 25 - 1) 4 ∧ Tiny single 3#2 (2 ^ 25 - 1) 4 ∧ ¬Tiny single 3#2 (2 ^ 23) 1) ∧
    (Tiny double 0#2 (double.value 0x0010000000000000#64 * double.value 0x3FE0000000000000#64) (2 ^ double.scale) ∧
      (0x1780#32).getLsbD 11 = false) := by
  unfold Flushes IsFinite Tiny Away
  and_intros <;> decide +kernel

/-- Rounding to a whole number is decided by one of the four clauses. -/
theorem rounds_down {num den m : Int} (h : m * den ≤ num) (h' : num < (m + 1) * den) : RoundsToInt 1#2 num den m :=
  ⟨fun h => absurd h (by decide), fun _ => ⟨h, h'⟩, fun h => absurd h (by decide), fun h => absurd h (by decide)⟩

/-- Not finite; 2^31, out of range; the greatest double in range, `2147483647`; and 2.5, which goes down to 2. -/
theorem witness_FloatToInteger :
    ¬IsFinite single 0x7F800000#32 ∧
    (IsFinite single 0x4F000000#32 ∧
      RoundsToInt 1#2 (single.value (daz single 0#32 0x4F000000#32)) (2 ^ single.scale) 2147483648) ∧
    (IsFinite double 0x41DFFFFFFFC00000#64 ∧
      RoundsToInt 1#2 (double.value (daz double 0#32 0x41DFFFFFFFC00000#64)) (2 ^ double.scale) 2147483647) ∧
    (IsFinite double 0x4004000000000000#64 ∧
      RoundsToInt 1#2 (double.value (daz double 0#32 0x4004000000000000#64)) (2 ^ double.scale) 2) :=
  ⟨fun h => absurd h.2 (by decide +kernel), ⟨⟨by decide +kernel, by decide +kernel⟩, rounds_down (by decide +kernel) (by decide +kernel)⟩,
    ⟨⟨by decide +kernel, by decide +kernel⟩, rounds_down (by decide +kernel) (by decide +kernel)⟩,
    ⟨by decide +kernel, by decide +kernel⟩, rounds_down (by decide +kernel) (by decide +kernel)⟩

/-- A signalling NaN, an infinity, a denormal and a zero of each format. -/
theorem witness_WideningAndNarrowing :
    (single.isNan 0x7F800001#32 = true ∧ single.isSNan 0x7F800001#32 = true ∧ single.isInf 0xFF800000#32 = true ∧
      IsFinite single 0x00000001#32 ∧ (1 : Dword) ≠ 0) ∧
    (double.isNan 0x7FF0000000000001#64 = true ∧ double.isInf 0xFFF0000000000000#64 = true ∧
      IsFinite double 0x3FF0000010000000#64 ∧ double.value (daz double 0x40#32 0x3FF0000010000000#64) ≠ 0 ∧
      double.isZero (daz double 0x40#32 0x8000000000000001#64) = true) := by
  unfold IsFinite
  decide +kernel

/-- Each clause: a NaN, a zero, a denormal, an infinity, a negative number, the two sides of `2^126`, where the reciprocal
becomes too small, and a positive number. -/
theorem witness_ReciprocalApproximations :
    single.isNan 0x7F800001#32 = true ∧ single.isZero 0x80000000#32 = true ∧ single.isDenormal 0x00000001#32 = true ∧
    single.isInf 0xFF800000#32 = true ∧
    ((0xBF800000#32).msb = true ∧ single.isNan 0xBF800000#32 = false ∧ single.isZero 0xBF800000#32 = false ∧
      single.isDenormal 0xBF800000#32 = false) ∧
    (IsFinite single 0x7E800001#32 ∧ 2 ^ 275 < |single.value 0x7E800001#32|) ∧
    (IsFinite single 0x7E800000#32 ∧ |single.value 0x7E800000#32| ≤ 2 ^ 275) ∧
    (IsFinite single 0x00800000#32 ∧ 0 < single.value 0x00800000#32) := by
  unfold IsFinite
  decide +kernel

end Sys2Proof.Tests
end

section
/-! SUPPORT. What the encoder writes is read back by the decoder: legacy prefixes, ModRM, SIB and displacement, and the
row that they select (30_encoding.md rules R121 to R128, R141). -/

namespace Sys2Proof

open Sys2Proof.Machine Sys2Proof.Spec

/-! ## ModRM and displacement -/

@[simp] theorem modOf_modrmByte (mod : BitVec 2) (reg rm : Reg) : modOf (modrmByte mod reg rm) = mod := by
  have h : (mod ++ reg ++ rm : BitVec (2 + 3 + 3)) = mod ++ (reg ++ rm) := BitVec.append_assoc.trans (by simp)
  exact (congrArg (BitVec.extractLsb' 6 2) h).trans BitVec.extractLsb'_append_eq_left

@[simp] theorem regOf_modrmByte (mod : BitVec 2) (reg rm : Reg) : regOf (modrmByte mod reg rm) = reg :=
  (BitVec.extractLsb'_append_eq_of_le (xhi := mod ++ reg) (xlo := rm) (by decide)).trans
    BitVec.extractLsb'_append_eq_right

@[simp] theorem rmOf_modrmByte (mod : BitVec 2) (reg rm : Reg) : rmOf (modrmByte mod reg rm) = rm :=
  BitVec.extractLsb'_append_eq_right

/-- Four bytes, least significant first, spell the displacement they were taken from (R125). -/
@[simp] theorem dispOf_extract (d : Dword) :
    dispOf (d.extractLsb' 0 8) (d.extractLsb' 8 8) (d.extractLsb' 16 8) (d.extractLsb' 24 8) = d := by
  unfold dispOf
  ext i hi
  simp only [BitVec.getElem_append, BitVec.getElem_extractLsb']
  grind

/-- With `mod` 2, or without a base, the displacement is the four bytes that `dispBytes` writes. -/
theorem takeDisp_dispBytes {mod : BitVec 2} {noBase : Bool} (d : Dword) (rest : List Byte) (h1 : mod ≠ 1#2)
    (h : mod = 2#2 ∨ noBase = true) : takeDisp mod noBase (dispBytes d ++ rest) = some (d, rest) := by
  simp [takeDisp, dispBytes, h1, h]

/-! ## Memory operands -/

/-- The ModRM byte of an encoded memory operand names memory and the register, and the bytes after it give the operand
back, in the segment that the prefixes put in force. -/
theorem encodeMem_takeMem (reg : Reg) {m : MemOp} (hwf : m.wellFormed = true) :
    ∃ modrm tl, encodeMem reg m = modrm :: tl ∧ modOf modrm ≠ 3#2 ∧ regOf modrm = reg ∧
      ∀ ovr rest, ovr.getD (defaultSeg m.base) = m.seg → takeMem ovr modrm (tl ++ rest) = some (m, rest) := by
  obtain ⟨seg, base, index, scale, disp⟩ := m
  simp only [MemOp.wellFormed, MemOp.indexOk, MemOp.scaleOk, Bool.and_eq_true, bne_iff_ne, Bool.or_eq_true,
    beq_iff_eq] at hwf
  obtain ⟨hindex, hscale⟩ := hwf
  cases base with
  | none =>
    cases index with
    | none =>
      obtain rfl : scale = 0#2 := by simpa using hscale
      refine ⟨_, _, rfl, by simp, by simp, fun ovr rest hovr => ?_⟩
      simp [takeMem, takeDisp_dispBytes, hovr]
    | some x =>
      have hx : x ≠ 4#3 := by simpa using hindex
      refine ⟨_, _, rfl, by simp, by simp, fun ovr rest hovr => ?_⟩
      simp [takeMem, takeDisp_dispBytes, hovr, hx]
  | some b =>
    cases index with
    | none =>
      obtain rfl : scale = 0#2 := by simpa using hscale
      by_cases hb : b = 4#3
      · subst hb
        refine ⟨_, _, rfl, by simp, by simp, fun ovr rest hovr => ?_⟩
        simp [takeMem, takeDisp_dispBytes, hovr]
      · refine ⟨modrmByte 2#2 reg b, dispBytes disp, by simp [encodeMem, hb], by simp, by simp, fun ovr rest hovr => ?_⟩
        simp [takeMem, takeDisp_dispBytes, hovr, hb]
    | some x =>
      have hx : x ≠ 4#3 := by simpa using hindex
      refine ⟨_, _, rfl, by simp, by simp, fun ovr rest hovr => ?_⟩
      simp [takeMem, takeDisp_dispBytes, hovr, hx]

/-! ## Prefixes -/

/-- Legacy prefix bytes of class `p` with which nothing is wrong: no LOCK, no 67, none repeated (R121, R122, R138). -/
structure PrefixesOf (p : Pfx) (ps : List Byte) : Prop where
  legacy   : ∀ b ∈ ps, isPrefixByte b = true
  classed  : classify ps = .ok p
  unlocked : ps.contains 0xF0#8 = false
  address  : ps.contains 0x67#8 = false

/-- The prefixes the encoder writes: an override where one is needed, then the mandatory byte. -/
theorem prefixesOf_segPrefix (seg dflt : Seg) (p : Pfx) : PrefixesOf p (segPrefix seg dflt ++ p.bytes) := by
  unfold segPrefix
  by_cases h : seg = dflt
  · rw [if_pos (beq_iff_eq.mpr h)]
    cases p <;> exact ⟨by decide, rfl, by decide, by decide⟩
  · rw [if_neg (mt beq_iff_eq.mp h)]
    cases seg <;> cases p <;> exact ⟨by decide, rfl, by decide, by decide⟩

theorem prefixesOf_bytes (p : Pfx) : PrefixesOf p p.bytes := prefixesOf_segPrefix .ds .ds p

/-- They put the segment in force that was encoded. -/
theorem segOverride_segPrefix (seg dflt : Seg) (p : Pfx) :
    (segOverride (segPrefix seg dflt ++ p.bytes)).getD dflt = seg := by
  unfold segPrefix
  by_cases h : seg = dflt
  · rw [if_pos (beq_iff_eq.mpr h)]
    cases p <;> exact h.symm
  · rw [if_neg (mt beq_iff_eq.mp h)]
    cases seg <;> cases p <;> rfl

/-- Decoding goes past legacy prefixes and `0F` to the opcode byte, in the class of the prefixes (R141 steps 1 to 4). -/
theorem decode_escape {x : Ext} {p : Pfx} {ps : List Byte} (op : Byte) (bs : List Byte)
    (hl : ∀ b ∈ ps, isPrefixByte b = true) (hp : classify ps = .ok p) :
    decode x (ps ++ 0x0F#8 :: op :: bs) = decodeOpcode x ps (ps ++ 0x0F#8 :: op :: bs).length p op bs := by
  have hn : isPrefixByte 0x0F#8 = false := by decide
  have ht : (ps ++ 0x0F#8 :: op :: bs).takeWhile isPrefixByte = ps := by
    rw [List.takeWhile_append_of_pos hl, List.takeWhile_cons_of_neg (by simp [hn]), List.append_nil]
  have hd : (ps ++ 0x0F#8 :: op :: bs).dropWhile isPrefixByte = 0x0F#8 :: op :: bs := by
    rw [List.dropWhile_append_of_pos hl, List.dropWhile_cons_of_neg (by simp [hn])]
  simp only [decode, ht, hd, hp]
  rfl

/-! ## Rows -/

/-- No ModRM byte is admitted by both rows. -/
def Row.Disjoint (r q : Row) : Prop := ∀ modrm : Byte, ¬(r.form.accepts modrm = true ∧ q.form.accepts modrm = true)

/-- Rows of one prefix class and one opcode byte have no ModRM byte in common. Looked through by the high half of the
opcode byte, for few pairs of rows share it. -/
theorem opcodeRows_disjoint : ∀ n < 16, (opcodeRows.filter fun r => r.op.toNat / 16 == n).Pairwise fun r q =>
    r.op = q.op → r.pfx = q.pfx → r.Disjoint q := by
  unfold Row.Disjoint
  decide +kernel

theorem rowsFor_disjoint (p : Pfx) (op : Byte) : (rowsFor p op).Pairwise Row.Disjoint := by
  have hn : op.toNat / 16 < 16 := by have := op.isLt; omega
  have hsub : rowsFor p op = (opcodeRows.filter fun r => r.op.toNat / 16 == op.toNat / 16).filter
      fun r => r.op == op && r.pfx == p := by
    rw [rowsFor, List.filter_filter]
    refine List.filter_congr fun r _ => ?_
    by_cases h : r.op = op <;> simp [h]
  have hp := (opcodeRows_disjoint _ hn).sublist (List.filter_sublist (p := fun r => r.op == op && r.pfx == p))
  rw [← hsub] at hp
  refine hp.imp_of_mem fun {r q} hr hq h => ?_
  have hr' := (List.mem_filter.mp hr).2
  have hq' := (List.mem_filter.mp hq).2
  simp only [Bool.and_eq_true, beq_iff_eq] at hr' hq'
  exact h (hr'.1.trans hq'.1.symm) (hr'.2.trans hq'.2.symm)

/-- Among rows that pairwise have no ModRM byte in common, the first that admits one is the one that does. -/
theorem find?_accepts_of_mem {rows : List Row} {r : Row} {modrm : Byte} (hd : rows.Pairwise Row.Disjoint)
    (hr : r ∈ rows) (hm : r.form.accepts modrm = true) : rows.find? (fun q => q.form.accepts modrm) = some r := by
  induction rows with
  | nil => cases hr
  | cons q qs ih =>
    obtain ⟨hq, hqs⟩ := List.pairwise_cons.mp hd
    rcases List.mem_cons.mp hr with rfl | hmem
    · exact List.find?_cons_of_pos (p := fun q : Row => q.form.accepts modrm) hm
    · exact (List.find?_cons_of_neg (p := fun q : Row => q.form.accepts modrm) fun h => hq r hmem modrm ⟨h, hm⟩).trans
        (ih hqs hmem)

/-- Prefix class, opcode byte and a ModRM byte of its form select a row of the table (R141 step 6). -/
theorem rowsFor_find? {r : Row} {modrm : Byte} (hr : r ∈ opcodeRows) (hm : r.form.accepts modrm = true) :
    (rowsFor r.pfx r.op).find? (fun q => q.form.accepts modrm) = some r :=
  find?_accepts_of_mem (rowsFor_disjoint r.pfx r.op) (List.mem_filter.mpr ⟨hr, by simp⟩) hm

/-- No row of the table has EMMS's opcode byte. -/
theorem opcodeRows_not_emms : ∀ r ∈ opcodeRows, r.op ≠ 0x77#8 := by decide +kernel

/-- After a row's opcode byte and a ModRM byte of its form the row's conditions decide: LOCK, feature, prefix 67. -/
theorem decodeOpcode_row {x : Ext} {ps : List Byte} {total : Nat} {r : Row} {modrm : Byte} (bs : List Byte)
    (hr : r ∈ opcodeRows) (hm : r.form.accepts modrm = true) :
    decodeOpcode x ps total r.pfx r.op (modrm :: bs) =
      if ps.contains 0xF0#8 then .undefined
      else if !x.has r.ext then
        if r.pfx == .np || !opcodeAvailable x r.op then .undefined else .refused .laterExtensionForm
      else if r.form.hasMem modrm && ps.contains 0x67#8 then .refused .addressSize16
      else decodeOperands ps total r.form modrm bs := by
  have hs := rowsFor_find? hr hm
  have he : (r.op == 0x77#8) = false := beq_eq_false_iff_ne.mpr (opcodeRows_not_emms r hr)
  rw [decodeOpcode, he, Bool.and_false, if_neg Bool.false_ne_true]
  cases hrows : rowsFor r.pfx r.op with
  | nil => rw [hrows] at hs; cases hs
  | cons q qs =>
    rw [hrows] at hs
    simp only [decodeRow, hs]

/-- A row's operands are read, where the processor has its feature and nothing is wrong with the prefixes. -/
theorem decode_row {x : Ext} {ps : List Byte} {r : Row} {modrm : Byte} (bs : List Byte) (hr : r ∈ opcodeRows)
    (hp : PrefixesOf r.pfx ps) (hx : x.has r.ext = true) (hm : r.form.accepts modrm = true) :
    decode x (ps ++ 0x0F#8 :: r.op :: modrm :: bs) =
      decodeOperands ps (ps ++ 0x0F#8 :: r.op :: modrm :: bs).length r.form modrm bs := by
  rw [decode_escape _ _ hp.legacy hp.classed, decodeOpcode_row bs hr hm, hp.unlocked, hp.address, hx]
  simp

end Sys2Proof
end

section
/-! SUPPORT. Decoding an encoded instruction gives it back: form by form, then for every instruction (30_encoding.md
rules R130, R141). -/

namespace Sys2Proof

open Sys2Proof.Machine Sys2Proof.Spec

/-! ## What the encoder writes, read back -/

/-- An encoded memory form: prefixes, `0F op`, a ModRM byte of memory, and the bytes of the operand. -/
theorem encMem_takeMem (p : Pfx) (op : Byte) (reg : Reg) {m : MemOp} (hwf : m.wellFormed = true) :
    ∃ ps modrm tl, encMem p op reg m = ps ++ 0x0F#8 :: op :: modrm :: tl ∧ PrefixesOf p ps ∧ modOf modrm ≠ 3#2 ∧
      regOf modrm = reg ∧ ∀ rest, takeMem (segOverride ps) modrm (tl ++ rest) = some (m, rest) := by
  obtain ⟨modrm, tl, henc, hmod, hreg, htake⟩ := encodeMem_takeMem reg hwf
  exact ⟨_, modrm, tl, by simp [encMem, henc], prefixesOf_segPrefix m.seg (defaultSeg m.base) p, hmod, hreg,
    fun rest => htake _ rest (segOverride_segPrefix ..)⟩

/-- An encoded register form: prefixes, `0F op`, and a ModRM byte. -/
theorem encReg_eq (p : Pfx) (op : Byte) (reg rm : Reg) :
    encReg p op reg rm = p.bytes ++ 0x0F#8 :: op :: modrmByte 3#2 reg rm :: [] := rfl

/-- An encoded register-or-memory form. -/
theorem encRm_takeRM (p : Pfx) (op : Byte) (reg : Reg) {rm : RM} (hwf : rm.wellFormed = true) :
    ∃ ps modrm tl, encRm p op reg rm = ps ++ 0x0F#8 :: op :: modrm :: tl ∧ PrefixesOf p ps ∧
      regOf modrm = reg ∧ ∀ rest, takeRM (segOverride ps) modrm (tl ++ rest) = some (rm, rest) := by
  cases rm with
  | reg r =>
    exact ⟨_, _, _, encReg_eq p op reg r, prefixesOf_bytes p, regOf_modrmByte .., fun rest => by simp [takeRM]⟩
  | mem m =>
    obtain ⟨ps, modrm, tl, henc, hp, hmod, hreg, htake⟩ := encMem_takeMem p op reg hwf
    exact ⟨ps, modrm, tl, henc, hp, hreg, fun rest => by simp [takeRM, hmod, htake]⟩

/-- A predicate byte: its upper bits are zero, its lower ones the predicate (R131). -/
theorem extract_pred (c : Pred) : (c.setWidth 8).extractLsb' 3 5 = 0#5 ∧ (c.setWidth 8).extractLsb' 0 3 = c := by
  revert c; decide

/-! ## Forms -/

/-- `bs` is the encoding of `i` by a row of the form, with prefix class `p` and opcode byte `op`. -/
inductive Form.Codes (p : Pfx) (op : Byte) : List Byte → Form → Instr → Prop
  | regRm (mk reg rm) : RM.wellFormed rm = true → Codes p op (encRm p op reg rm) (.regRm mk) (mk reg rm)
  | regRmImm (mk reg rm imm) : RM.wellFormed rm = true →
      Codes p op (encRm p op reg rm ++ [imm]) (.regRmImm mk) (mk reg rm imm)
  | regRmPred (mk reg rm pred) : RM.wellFormed rm = true →
      Codes p op (encRm p op reg rm ++ [pred.setWidth 8]) (.regRmPred mk) (mk reg rm pred)
  | regReg (mk reg rm) : Codes p op (encReg p op reg rm) (.regReg mk) (mk reg rm)
  | regRegImm (mk reg rm imm) : Codes p op (encReg p op reg rm ++ [imm]) (.regRegImm mk) (mk reg rm imm)
  | regMem (mk reg m) : MemOp.wellFormed m = true → Codes p op (encMem p op reg m) (.regMem mk) (mk reg m)
  | rmImm (d mk rm imm) : Codes p op (encReg p op d rm ++ [imm]) (.rmImm d mk) (mk rm imm)
  | mem (d mk m) : MemOp.wellFormed m = true → Codes p op (encMem p op d m) (.mem d mk) (mk m)
  | fixed (d i) : Codes p op (encReg p op d 0#3) (.fixed d i) i
  | masked (mk reg rm seg) : Codes p op (encMasked p op reg rm seg) (.masked mk) (mk reg rm seg)

/-- The bytes are prefixes of the class, `0F op`, a ModRM byte the form admits, and bytes from which the form's operands
are read, whatever follows. -/
theorem Form.Codes.decodeOperands {p : Pfx} {op : Byte} {i : Instr} {f : Form} {bs : List Byte}
    (h : Form.Codes p op bs f i) :
    ∃ ps modrm tl, bs = ps ++ 0x0F#8 :: op :: modrm :: tl ∧ PrefixesOf p ps ∧ f.accepts modrm = true ∧
      ∀ total rest, decodeOperands ps total f modrm (tl ++ rest) = finish total i rest := by
  cases h with
  | regRm mk reg rm hwf =>
    obtain ⟨ps, modrm, tl, henc, hp, hreg, htake⟩ := encRm_takeRM p op reg hwf
    exact ⟨ps, modrm, tl, henc, hp, rfl, fun total rest => by simp [Sys2Proof.decodeOperands, htake, hreg]⟩
  | regRmImm mk reg rm imm hwf =>
    obtain ⟨ps, modrm, tl, henc, hp, hreg, htake⟩ := encRm_takeRM p op reg hwf
    exact ⟨ps, modrm, tl ++ [imm], by simp [henc], hp, rfl, fun total rest => by
      simp [Sys2Proof.decodeOperands, htake, hreg]⟩
  | regRmPred mk reg rm c hwf =>
    obtain ⟨ps, modrm, tl, henc, hp, hreg, htake⟩ := encRm_takeRM p op reg hwf
    exact ⟨ps, modrm, tl ++ [c.setWidth 8], by simp [henc], hp, rfl, fun total rest => by
      simp [Sys2Proof.decodeOperands, htake, hreg, extract_pred c]⟩
  | regReg mk reg rm =>
    exact ⟨_, _, _, encReg_eq p op reg rm, prefixesOf_bytes p, by simp [Form.accepts], fun total rest => by
      simp [Sys2Proof.decodeOperands]⟩
  | regRegImm mk reg rm imm =>
    exact ⟨_, modrmByte 3#2 reg rm, [imm], by simp [encReg_eq], prefixesOf_bytes p, by simp [Form.accepts],
      fun total rest => by simp [Sys2Proof.decodeOperands]⟩
  | regMem mk reg m hwf =>
    obtain ⟨ps, modrm, tl, henc, hp, hmod, hreg, htake⟩ := encMem_takeMem p op reg hwf
    exact ⟨ps, modrm, tl, henc, hp, by simp [Form.accepts, hmod], fun total rest => by
      simp [Sys2Proof.decodeOperands, htake, hreg]⟩
  | rmImm d mk rm imm =>
    exact ⟨_, modrmByte 3#2 d rm, [imm], by simp [encReg_eq], prefixesOf_bytes p, by simp [Form.accepts],
      fun total rest => by simp [Sys2Proof.decodeOperands]⟩
  | mem d mk m hwf =>
    obtain ⟨ps, modrm, tl, henc, hp, hmod, hreg, htake⟩ := encMem_takeMem p op d hwf
    exact ⟨ps, modrm, tl, henc, hp, by simp [Form.accepts, hmod, hreg], fun total rest => by
      simp [Sys2Proof.decodeOperands, htake]⟩
  | fixed d i =>
    exact ⟨_, _, _, encReg_eq p op d 0#3, prefixesOf_bytes p, by simp [Form.accepts], fun total rest => by
      simp [Sys2Proof.decodeOperands]⟩
  | masked mk reg rm seg =>
    exact ⟨segPrefix seg .ds ++ p.bytes, modrmByte 3#2 reg rm, [], by simp [encMasked, encReg_eq],
      prefixesOf_segPrefix seg .ds p, by simp [Form.accepts], fun total rest => by
        simp [Sys2Proof.decodeOperands, segOverride_segPrefix]⟩

/-- A row's encodings are at most 11 bytes long. -/
theorem Form.Codes.length_le {p : Pfx} {op : Byte} {i : Instr} {f : Form} {bs : List Byte}
    (h : Form.Codes p op bs f i) : bs.length ≤ 11 := by
  cases h with
  | regRm => exact (Laws.between (encRm_length ..)).2
  | regRmImm => exact (Laws.betweenImm (encRm_length ..)).2
  | regRmPred => exact (Laws.betweenImm (encRm_length ..)).2
  | regReg => exact (Laws.between (Laws.regBetween (encReg_length ..))).2
  | regRegImm => exact (Laws.betweenImm (Laws.regBetween (encReg_length ..))).2
  | regMem => exact (Laws.between (encMem_length ..)).2
  | rmImm => exact (Laws.betweenImm (Laws.regBetween (encReg_length ..))).2
  | mem => exact (Laws.between (encMem_length ..)).2
  | fixed => exact (Laws.between (Laws.regBetween (encReg_length ..))).2
  | masked => exact (Laws.between (encMasked_length ..)).2

/-- A row's encoding of an instruction, whatever follows, is decoded to the instruction and the encoding's length. -/
theorem Form.Codes.decode {x : Ext} {p : Pfx} {op : Byte} {ext : Ext} {i : Instr} {f : Form} {bs : List Byte}
    (rest : List Byte) (h : Form.Codes p op bs f i) (hr : ⟨p, op, ext, f⟩ ∈ opcodeRows) (hx : x.has ext = true) :
    decode x (bs ++ rest) = .instr i bs.length := by
  obtain ⟨ps, modrm, tl, rfl, hp, hm, hops⟩ := h.decodeOperands
  have hlen : (ps ++ 0x0F#8 :: op :: modrm :: (tl ++ rest)).length - rest.length =
      (ps ++ 0x0F#8 :: op :: modrm :: tl).length := by
    simp only [List.length_append, List.length_cons]
    omega
  have hd := decode_row (tl ++ rest) hr hp hx hm
  rw [hops, finish, hlen] at hd
  simpa using hd

/-- A shift by register or memory. -/
theorem Form.Codes.countRm {p : Pfx} {op : Byte} (mk : Reg → Count → Instr) (reg : Reg) (rm : RM)
    (hwf : rm.wellFormed = true) :
    Form.Codes p op (encRm p op reg rm) (.regRm fun d c => mk d (.rm c)) (mk reg (.rm rm)) :=
  .regRm (fun d c => mk d (.rm c)) reg rm hwf

/-- A shift by an immediate. -/
theorem Form.Codes.countImm {p : Pfx} {op : Byte} (digit : Reg) (mk : Reg → Count → Instr) (rm : Reg) (imm : Imm8) :
    Form.Codes p op (encReg p op digit rm ++ [imm]) (.rmImm digit fun d c => mk d (.imm c)) (mk rm (.imm imm)) :=
  .rmImm digit (fun d c => mk d (.imm c)) rm imm

/-! ## Every instruction -/

/-- An instruction that a row of the opcode table encodes, one of the instruction's own feature. -/
def HasRow (i : Instr) : Prop := ∃ p op f, ⟨p, op, (klass i).2, f⟩ ∈ opcodeRows ∧ Form.Codes p op (encode i) f i

theorem rowsMmx_subset : rowsMmx ⊆ opcodeRows := fun _ h => by simp [opcodeRows, h]

theorem rowsSse_subset : rowsSse ⊆ opcodeRows := fun _ h => by simp [opcodeRows, h]

theorem rowsSse2Fp_subset : rowsSse2Fp ⊆ opcodeRows := fun _ h => by simp [opcodeRows, h]

theorem rowsSse2Int_subset : rowsSse2Int ⊆ opcodeRows := fun _ h => by simp [opcodeRows, h]

theorem rowsSse2New_subset : rowsSse2New ⊆ opcodeRows := fun _ h => by simp [opcodeRows, h]

/-- A ModRM byte that the form admits. -/
def Form.sample : Form → Byte
  | .regRm _ | .regRmImm _ | .regRmPred _ | .regMem _ => modrmByte 0#2 0#3 0#3
  | .regReg _ | .regRegImm _ | .masked _ => modrmByte 3#2 0#3 0#3
  | .rmImm d _ | .fixed d _ => modrmByte 3#2 d 0#3
  | .mem d _ => modrmByte 0#2 d 0#3

/-- A row found in a part of the table, by prefix class, opcode byte and a ModRM byte of its form. -/
theorem HasRow.of_find? {rows : List Row} {p : Pfx} {op : Byte} {f : Form} {i : Instr} (hsub : rows ⊆ opcodeRows)
    (hc : Form.Codes p op (encode i) f i)
    (hf : rows.find? (fun r => r.op == op && r.pfx == p && r.form.accepts f.sample) = some ⟨p, op, (klass i).2, f⟩) :
    HasRow i := ⟨p, op, f, hsub (List.mem_of_find?_eq_some hf), hc⟩

/-- Every instruction but EMMS and PAUSE, which have no ModRM byte, has its row: by part of the table and form. -/
theorem hasRow_or_emms_or_pause (i : Instr) (hwf : i.wellFormed = true) : HasRow i ∨ i = .emms ∨ i = .pause :=
  match i, hwf with
  | .movdMm .load .., h | .movdMm .store .., h | .movqMm .load .., h | .movqMm .store .., h | .paddbMm .., h
  | .paddwMm .., h | .padddMm .., h | .paddsbMm .., h | .paddswMm .., h | .paddusbMm .., h | .padduswMm .., h
  | .psubbMm .., h | .psubwMm .., h | .psubdMm .., h | .psubsbMm .., h | .psubswMm .., h | .psubusbMm .., h
  | .psubuswMm .., h | .pmullwMm .., h | .pmulhwMm .., h | .pmaddwdMm .., h | .pcmpeqbMm .., h | .pcmpeqwMm .., h
  | .pcmpeqdMm .., h | .pcmpgtbMm .., h | .pcmpgtwMm .., h | .pcmpgtdMm .., h | .packsswbMm .., h
  | .packssdwMm .., h | .packuswbMm .., h | .punpckhbwMm .., h | .punpckhwdMm .., h | .punpckhdqMm .., h
  | .punpcklbwMm .., h | .punpcklwdMm .., h | .punpckldqMm .., h | .pandMm .., h | .pandnMm .., h | .porMm .., h
  | .pxorMm .., h =>
    .inl (.of_find? rowsMmx_subset (.regRm _ _ _ h) rfl)
  | .psllwMm _ (.rm _), h | .pslldMm _ (.rm _), h | .psllqMm _ (.rm _), h | .psrlwMm _ (.rm _), h
  | .psrldMm _ (.rm _), h | .psrlqMm _ (.rm _), h | .psrawMm _ (.rm _), h | .psradMm _ (.rm _), h =>
    .inl (.of_find? rowsMmx_subset (.countRm _ _ _ h) rfl)
  | .psllwMm _ (.imm _), _ | .pslldMm _ (.imm _), _ | .psllqMm _ (.imm _), _ | .psrlwMm _ (.imm _), _
  | .psrldMm _ (.imm _), _ | .psrlqMm _ (.imm _), _ | .psrawMm _ (.imm _), _ | .psradMm _ (.imm _), _ =>
    .inl (.of_find? rowsMmx_subset (.countImm _ _ _ _) rfl)
  | .movaps .load .., h | .movaps .store .., h | .movups .load .., h | .movups .store .., h | .movss .load .., h
  | .movss .store .., h | .addps .., h | .addss .., h | .subps .., h | .subss .., h | .mulps .., h | .mulss .., h
  | .divps .., h | .divss .., h | .maxps .., h | .maxss .., h | .minps .., h | .minss .., h | .sqrtps .., h
  | .sqrtss .., h | .rcpps .., h | .rcpss .., h | .rsqrtps .., h | .rsqrtss .., h | .comiss .., h | .ucomiss .., h
  | .cvtpi2ps .., h | .cvtps2pi .., h | .cvttps2pi .., h | .cvtsi2ss .., h | .cvtss2si .., h | .cvttss2si .., h
  | .andps .., h | .andnps .., h | .orps .., h | .xorps .., h | .unpckhps .., h | .unpcklps .., h | .pavgbMm .., h
  | .pavgwMm .., h | .pmaxswMm .., h | .pmaxubMm .., h | .pminswMm .., h | .pminubMm .., h | .pmulhuwMm .., h
  | .psadbwMm .., h =>
    .inl (.of_find? rowsSse_subset (.regRm _ _ _ h) rfl)
  | .movlps .load .., h | .movlps .store .., h | .movhps .load .., h | .movhps .store .., h | .movntq .., h
  | .movntps .., h =>
    .inl (.of_find? rowsSse_subset (.regMem _ _ _ h) rfl)
  | .movhlps .., _ | .movlhps .., _ | .movmskps .., _ | .pmovmskbMm .., _ =>
    .inl (.of_find? rowsSse_subset (.regReg _ _ _) rfl)
  | .cmpps .., h | .cmpss .., h =>
    .inl (.of_find? rowsSse_subset (.regRmPred _ _ _ _ h) rfl)
  | .shufps .., h | .pinsrwMm .., h | .pshufw .., h =>
    .inl (.of_find? rowsSse_subset (.regRmImm _ _ _ _ h) rfl)
  | .pextrwMm .., _ =>
    .inl (.of_find? rowsSse_subset (.regRegImm _ _ _ _) rfl)
  | .ldmxcsr .., h | .stmxcsr .., h | .fxsave .., h | .fxrstor .., h | .prefetcht0 .., h | .prefetcht1 .., h
  | .prefetcht2 .., h | .prefetchnta .., h =>
    .inl (.of_find? rowsSse_subset (.mem _ _ _ h) rfl)
  | .maskmovq .., _ =>
    .inl (.of_find? rowsSse_subset (.masked _ _ _ _) rfl)
  | .sfence, _ =>
    .inl (.of_find? rowsSse_subset (.fixed _ _) rfl)
  | .movapd .load .., h | .movapd .store .., h | .movupd .load .., h | .movupd .store .., h | .movsd .load .., h
  | .movsd .store .., h | .addpd .., h | .addsd .., h | .subpd .., h | .subsd .., h | .mulpd .., h | .mulsd .., h
  | .divpd .., h | .divsd .., h | .maxpd .., h | .maxsd .., h | .minpd .., h | .minsd .., h | .sqrtpd .., h
  | .sqrtsd .., h | .comisd .., h | .ucomisd .., h | .andpd .., h | .andnpd .., h | .orpd .., h | .xorpd .., h
  | .unpckhpd .., h | .unpcklpd .., h | .cvtpd2pi .., h | .cvttpd2pi .., h | .cvtpd2dq .., h | .cvttpd2dq .., h
  | .cvtdq2pd .., h | .cvtps2pd .., h | .cvtpd2ps .., h | .cvtss2sd .., h | .cvtsd2ss .., h | .cvtsd2si .., h
  | .cvttsd2si .., h | .cvtsi2sd .., h | .cvtdq2ps .., h | .cvtps2dq .., h | .cvttps2dq .., h =>
    .inl (.of_find? rowsSse2Fp_subset (.regRm _ _ _ h) rfl)
  | .movlpd .load .., h | .movlpd .store .., h | .movhpd .load .., h | .movhpd .store .., h =>
    .inl (.of_find? rowsSse2Fp_subset (.regMem _ _ _ h) rfl)
  | .movmskpd .., _ =>
    .inl (.of_find? rowsSse2Fp_subset (.regReg _ _ _) rfl)
  | .cmppd .., h | .cmpsd .., h =>
    .inl (.of_find? rowsSse2Fp_subset (.regRmPred _ _ _ _ h) rfl)
  | .shufpd .., h =>
    .inl (.of_find? rowsSse2Fp_subset (.regRmImm _ _ _ _ h) rfl)
  | .cvtpi2pd _ rm, h =>
    .inl (.of_find? rowsSse2Fp_subset (.regRm _ _ _ h) (by cases rm <;> rfl))
  | .movdXmm .load .., h | .movdXmm .store .., h | .movqXmm .load .., h | .movqXmm .store .., h | .paddbXmm .., h
  | .paddwXmm .., h | .padddXmm .., h | .paddsbXmm .., h | .paddswXmm .., h | .paddusbXmm .., h | .padduswXmm .., h
  | .psubbXmm .., h | .psubwXmm .., h | .psubdXmm .., h | .psubsbXmm .., h | .psubswXmm .., h | .psubusbXmm .., h
  | .psubuswXmm .., h | .pmullwXmm .., h | .pmulhwXmm .., h | .pmaddwdXmm .., h | .pcmpeqbXmm .., h
  | .pcmpeqwXmm .., h | .pcmpeqdXmm .., h | .pcmpgtbXmm .., h | .pcmpgtwXmm .., h | .pcmpgtdXmm .., h
  | .packsswbXmm .., h | .packssdwXmm .., h | .packuswbXmm .., h | .punpckhbwXmm .., h | .punpckhwdXmm .., h
  | .punpckhdqXmm .., h | .punpcklbwXmm .., h | .punpcklwdXmm .., h | .punpckldqXmm .., h | .pandXmm .., h
  | .pandnXmm .., h | .porXmm .., h | .pxorXmm .., h | .pavgbXmm .., h | .pavgwXmm .., h | .pmaxswXmm .., h
  | .pmaxubXmm .., h | .pminswXmm .., h | .pminubXmm .., h | .pmulhuwXmm .., h | .psadbwXmm .., h =>
    .inl (.of_find? rowsSse2Int_subset (.regRm _ _ _ h) rfl)
  | .psllwXmm _ (.rm _), h | .pslldXmm _ (.rm _), h | .psllqXmm _ (.rm _), h | .psrlwXmm _ (.rm _), h
  | .psrldXmm _ (.rm _), h | .psrlqXmm _ (.rm _), h | .psrawXmm _ (.rm _), h | .psradXmm _ (.rm _), h =>
    .inl (.of_find? rowsSse2Int_subset (.countRm _ _ _ h) rfl)
  | .psllwXmm _ (.imm _), _ | .pslldXmm _ (.imm _), _ | .psllqXmm _ (.imm _), _ | .psrlwXmm _ (.imm _), _
  | .psrldXmm _ (.imm _), _ | .psrlqXmm _ (.imm _), _ | .psrawXmm _ (.imm _), _ | .psradXmm _ (.imm _), _ =>
    .inl (.of_find? rowsSse2Int_subset (.countImm _ _ _ _) rfl)
  | .pextrwXmm .., _ =>
    .inl (.of_find? rowsSse2Int_subset (.regRegImm _ _ _ _) rfl)
  | .pinsrwXmm .., h =>
    .inl (.of_find? rowsSse2Int_subset (.regRmImm _ _ _ _ h) rfl)
  | .pmovmskbXmm .., _ =>
    .inl (.of_find? rowsSse2Int_subset (.regReg _ _ _) rfl)
  | .movdqa .load .., h | .movdqa .store .., h | .movdqu .load .., h | .movdqu .store .., h | .paddqMm .., h
  | .paddqXmm .., h | .psubqMm .., h | .psubqXmm .., h | .pmuludqMm .., h | .pmuludqXmm .., h | .punpckhqdqXmm .., h
  | .punpcklqdqXmm .., h =>
    .inl (.of_find? rowsSse2New_subset (.regRm _ _ _ h) rfl)
  | .movdq2q .., _ | .movq2dq .., _ =>
    .inl (.of_find? rowsSse2New_subset (.regReg _ _ _) rfl)
  | .pshufd .., h | .pshufhw .., h | .pshuflw .., h =>
    .inl (.of_find? rowsSse2New_subset (.regRmImm _ _ _ _ h) rfl)
  | .pslldq .., _ | .psrldq .., _ =>
    .inl (.of_find? rowsSse2New_subset (.rmImm _ _ _ _) rfl)
  | .clflush .., h =>
    .inl (.of_find? rowsSse2New_subset (.mem _ _ _ h) rfl)
  | .lfence, _ | .mfence, _ =>
    .inl (.of_find? rowsSse2New_subset (.fixed _ _) rfl)
  | .movntpd .., h | .movntdq .., h | .movnti .., h =>
    .inl (.of_find? rowsSse2New_subset (.regMem _ _ _ h) rfl)
  | .maskmovdqu .., _ =>
    .inl (.of_find? rowsSse2New_subset (.masked _ _ _ _) rfl)
  | .emms, _ => .inr (.inl rfl)
  | .pause, _ => .inr (.inr rfl)

/-! ## Decoding what is encoded -/

theorem finish_two (i : Instr) (rest : List Byte) : finish (rest.length + 2) i rest = .instr i 2 := by
  rw [finish, Nat.add_sub_cancel_left]

theorem decode_emms (x : Ext) (rest : List Byte) : decode x (encode .emms ++ rest) = .instr .emms 2 :=
  (decode_escape (ps := []) 0x77#8 rest (fun _ h => nomatch h) rfl).trans (finish_two .emms rest)

theorem decode_pause (x : Ext) (rest : List Byte) : decode x (encode .pause ++ rest) = .instr .pause 2 :=
  (show decode x (encode .pause ++ rest) = finish (rest.length + 2) .pause rest from rfl).trans (finish_two .pause rest)

/-- Decoding an encoded instruction gives it back with its length, whatever follows, where the processor has its
feature. -/
theorem decode_encode {x : Ext} {i : Instr} (rest : List Byte) (hwf : i.wellFormed = true)
    (hx : x.has (klass i).2 = true) : decode x (encode i ++ rest) = .instr i (encode i).length := by
  rcases hasRow_or_emms_or_pause i hwf with ⟨p, op, f, hr, hc⟩ | rfl | rfl
  · exact hc.decode rest hr hx
  · exact decode_emms x rest
  · exact decode_pause x rest

theorem encode_length_le {i : Instr} (hwf : i.wellFormed = true) : (encode i).length ≤ 11 := by
  rcases hasRow_or_emms_or_pause i hwf with ⟨p, op, f, hr, hc⟩ | rfl | rfl
  · exact hc.length_le
  · exact Laws.EncodeLength.emms.2
  · exact Laws.EncodeLength.pause.2

end Sys2Proof
end

section
/-! SUPPORT. The terms in which the statements speak of addresses, exceptions and the fetch, tied to the model's
operations (20_memory.md rules R90 to R103, 60_exceptions.md rules R661, R662, R675). -/

namespace Sys2Proof.Machine

open Sys2Proof.Spec

/-! ## Addresses (20_memory.md rules R92, R94, R103) -/

theorem physOf_eq (s : State) (a : Nat) : physOf s a = s.phys a := by
  have hpage : ∀ f, (f * 4096 + a % 4096) % 2 ^ 32 = f % 0x100000 * 4096 + a % 4096 := fun f => by omega
  unfold physOf State.phys State.frameOf
  cases h : s.rangeOf (a / 4096) with
  | none =>
    rw [show rangeOf s a = none from h, ← hpage, Nat.mul_comm, Nat.div_add_mod]
  | some p =>
    rw [show rangeOf s a = some p from h, ← hpage]

theorem writeBack_iff (s : State) (a : Nat) : WriteBack s a ↔ s.memType a = .writeBack := by
  unfold WriteBack State.memType
  rw [physOf_eq]
  cases s.plat.memTypes.find? fun r => decide (r.lo ≤ s.phys a) && decide (s.phys a ≤ r.hi) <;> simp

theorem written_iff (s : State) (a : Nat) : Written s a ↔ s.wasStored a = true := by
  simp [Written, State.wasStored, physOf_eq]

theorem pageOpen_iff (s : State) (kind : AccessKind) (a : Nat) : PageOpen s kind a ↔ s.pageFault kind a = none :=
  pageFault_eq_none.symm

/-- The bits of a page fault's error code do not overlap. -/
theorem pageCode_eq_or (s : State) (kind : AccessKind) (p : PageRange) :
    pageCode s kind p = (if p.present then 1#32 else 0#32) ||| (if kind = .write then 2#32 else 0#32) |||
      (if s.cpl = 3#2 then 4#32 else 0#32) := by
  unfold pageCode
  split <;> split <;> split <;> rfl

/-- A byte that paging forbids lies in some page range, which gives the error code. -/
theorem pageFault_of_not_pageOpen {s : State} {kind : AccessKind} {a : Nat} {p : PageRange} (hp : rangeOf s a = some p)
    (h : ¬PageOpen s kind a) : s.pageFault kind a = some (pageCode s kind p) := by
  rw [pageOpen_iff] at h
  unfold State.pageFault at h ⊢
  rw [show s.rangeOf (a / 4096) = some p from hp] at h ⊢
  dsimp only at h ⊢
  split
  · next hopen => exact absurd (if_pos hopen) h
  · rw [pageCode_eq_or]

theorem rangeOf_of_not_pageOpen {s : State} {kind : AccessKind} {a : Nat} (h : ¬PageOpen s kind a) :
    ∃ p, rangeOf s a = some p := by
  cases hr : rangeOf s a with
  | none => exact absurd (fun p hp => nomatch hr.symm.trans hp) h
  | some p => exact ⟨p, rfl⟩

/-! ## Exceptions (60_exceptions.md rules R661, R662) -/

/-- An exception without numeric conditions is recorded, and nothing else changes but, for a page fault, CR2. -/
theorem takeException_eq_took (s : State) (e : Exn) (code addr : Option Dword) :
    takeException s ⟨e, code, addr, 0#6⟩ = took s e code addr := by
  simp [takeException, took, mxOr]

/-! ## Fetching (R675 (1)) -/

theorem fetchByte_past_space {s : State} {k : Nat} (h : 0x100000000 ≤ s.eip.toNat + k) :
    s.fetchByte k = .error (.refuse .addressWrap) := if_pos h

section
variable {s : State} {k : Nat} (hend : s.eip.toNat + k < 0x100000000)
include hend

theorem fetchByte_past_limit (h : s.segs.cs.limit.toNat < s.eip.toNat + k) :
    s.fetchByte k = .error (.raise (.zero .gp)) :=
  (if_neg (Nat.not_le.mpr hend)).trans (if_pos h)

variable (hlimit : s.eip.toNat + k ≤ s.segs.cs.limit.toNat)
include hlimit

theorem fetchByte_linear_past_space (h : 0x100000000 ≤ s.linear .cs s.eip + k) :
    s.fetchByte k = .error (.refuse .addressWrap) :=
  ((if_neg (Nat.not_le.mpr hend)).trans (if_neg (Nat.not_lt.mpr hlimit))).trans (if_pos h)

variable (hspace : s.linear .cs s.eip + k < 0x100000000)
include hspace

theorem fetchByte_pageFault {code : Dword} (h : s.pageFault .fetch (s.linear .cs s.eip + k) = some code) :
    s.fetchByte k = .error (.raise ⟨.pf, some code, some (BitVec.ofNat 32 (s.linear .cs s.eip + k)), 0#6⟩) := by
  refine ((if_neg (Nat.not_le.mpr hend)).trans (if_neg (Nat.not_lt.mpr hlimit))).trans
    ((if_neg (Nat.not_le.mpr hspace)).trans ?_)
  simp only [State.fetchAddr, h, raise]

theorem fetchByte_pageOpen (h : PageOpen s .fetch (s.linear .cs s.eip + k)) :
    s.fetchByte k =
      if s.memType (s.linear .cs s.eip + k) ≠ .writeBack then .error (.refuse .otherMemoryType)
      else if s.wasStored (s.linear .cs s.eip + k) then .error (.refuse .fetchOfStoredByte)
      else .ok (Memory.read s.mem (s.phys (s.linear .cs s.eip + k))) := by
  refine ((if_neg (Nat.not_le.mpr hend)).trans (if_neg (Nat.not_lt.mpr hlimit))).trans
    ((if_neg (Nat.not_le.mpr hspace)).trans ?_)
  simp only [State.fetchAddr, (pageOpen_iff s .fetch _).mp h] <;> rfl

end

/-- A byte that can be fetched is fetched. -/
theorem fetchByte_of_fetchable {s : State} {k : Nat} {b : Byte} (h : Fetchable s k b) : s.fetchByte k = .ok b := by
  obtain ⟨hend, hlimit, hspace, hopen, hwb, hwritten, hb⟩ := h
  rw [writeBack_iff] at hwb
  rw [written_iff] at hwritten
  rw [physOf_eq] at hb
  rw [fetchByte_pageOpen hend hlimit hspace hopen, if_neg (not_not_intro hwb), if_neg hwritten, hb]

/-- Where the fetch of a byte stops, it ends in what `FetchStops` says. -/
theorem fetchByte_of_fetchStops {s : State} {k : Nat} {o : Result} (h : FetchStops s k o) :
    ∃ e, s.fetchByte k = .error e ∧ o = settle s (.error e) := by
  rcases h with ⟨hend, rfl⟩ | ⟨hend, hlimit, rfl⟩ | ⟨⟨hend, hlimit⟩, hspace, rfl⟩ |
    ⟨⟨hend, hlimit⟩, hspace, p, hp, hclosed, rfl⟩ | ⟨⟨hend, hlimit⟩, hspace, hopen, hwb, rfl⟩ |
    ⟨⟨hend, hlimit⟩, hspace, hopen, hwb, hwritten, rfl⟩
  · exact ⟨_, fetchByte_past_space hend, rfl⟩
  · exact ⟨_, fetchByte_past_limit hend hlimit, congrArg _ (takeException_eq_took ..).symm⟩
  · exact ⟨_, fetchByte_linear_past_space hend hlimit hspace, rfl⟩
  · exact ⟨_, fetchByte_pageFault hend hlimit hspace (pageFault_of_not_pageOpen hp hclosed),
      congrArg _ (takeException_eq_took ..).symm⟩
  · rw [writeBack_iff] at hwb
    exact ⟨_, (fetchByte_pageOpen hend hlimit hspace hopen).trans (if_pos hwb), rfl⟩
  · rw [writeBack_iff] at hwb
    rw [written_iff] at hwritten
    exact ⟨_, (fetchByte_pageOpen hend hlimit hspace hopen).trans
      ((if_neg (not_not_intro hwb)).trans (if_pos hwritten)), rfl⟩

/-- A byte can be fetched, or its fetch stops. -/
theorem fetchable_or_fetchStops (s : State) (k : Nat) : (∃ b, Fetchable s k b) ∨ ∃ o, FetchStops s k o := by
  by_cases hend : s.eip.toNat + k < 2 ^ 32
  · by_cases hlimit : s.eip.toNat + k ≤ s.segs.cs.limit.toNat
    · by_cases hspace : s.linear .cs s.eip + k < 2 ^ 32
      · by_cases hopen : PageOpen s .fetch (s.linear .cs s.eip + k)
        · by_cases hwb : WriteBack s (s.linear .cs s.eip + k)
          · by_cases hwritten : Written s (s.linear .cs s.eip + k)
            · exact .inr ⟨_, .inr (.inr (.inr (.inr (.inr ⟨⟨hend, hlimit⟩, hspace, hopen, hwb, hwritten, rfl⟩))))⟩
            · exact .inl ⟨_, hend, hlimit, hspace, hopen, hwb, hwritten, rfl⟩
          · exact .inr ⟨_, .inr (.inr (.inr (.inr (.inl ⟨⟨hend, hlimit⟩, hspace, hopen, hwb, rfl⟩))))⟩
        · obtain ⟨p, hp⟩ := rangeOf_of_not_pageOpen hopen
          exact .inr ⟨_, .inr (.inr (.inr (.inl ⟨⟨hend, hlimit⟩, hspace, p, hp, hopen, rfl⟩)))⟩
      · exact .inr ⟨_, .inr (.inr (.inl ⟨⟨hend, hlimit⟩, Nat.not_lt.mp hspace, rfl⟩))⟩
    · exact .inr ⟨_, .inr (.inl ⟨hend, Nat.not_le.mp hlimit, rfl⟩)⟩
  · exact .inr ⟨_, .inl ⟨Nat.not_lt.mp hend, rfl⟩⟩

theorem fetchByte_eq_ok {s : State} {k : Nat} {b : Byte} : s.fetchByte k = .ok b ↔ Fetchable s k b := by
  refine ⟨fun h => ?_, fetchByte_of_fetchable⟩
  rcases fetchable_or_fetchStops s k with ⟨c, hc⟩ | ⟨o, ho⟩
  · cases (fetchByte_of_fetchable hc).symm.trans h
    exact hc
  · obtain ⟨e, he, _⟩ := fetchByte_of_fetchStops ho
    cases he.symm.trans h

theorem fetchStops_of_error {s : State} {k : Nat} {e : Stop} (h : s.fetchByte k = .error e) :
    FetchStops s k (settle s (.error e)) := by
  rcases fetchable_or_fetchStops s k with ⟨c, hc⟩ | ⟨o, ho⟩
  · cases (fetchByte_of_fetchable hc).symm.trans h
  · obtain ⟨e', he, rfl⟩ := fetchByte_of_fetchStops ho
    cases he.symm.trans h
    exact ho

/-! ## The window of bytes that are fetched (R141) -/

/-- A window is empty where the fetch of its first byte stops. -/
theorem State.window_of_error {s : State} {n i : Nat} {e : Stop} (h : s.fetchByte i = .error e) (hn : 0 < n) :
    s.window n i = ([], some e) := by
  obtain ⟨m, rfl⟩ := Nat.exists_eq_add_one.mpr hn
  rw [State.window, h]

/-- Bytes that can all be fetched stand first in the window. -/
theorem State.window_eq_append {s : State} {bs : List Byte} {n i : Nat}
    (h : ∀ k b, bs[k]? = some b → s.fetchByte (i + k) = .ok b) (hn : bs.length ≤ n) :
    s.window n i =
      (bs ++ (s.window (n - bs.length) (i + bs.length)).1, (s.window (n - bs.length) (i + bs.length)).2) := by
  induction bs generalizing n i with
  | nil => rfl
  | cons b bs ih =>
    obtain ⟨m, rfl⟩ := Nat.exists_eq_add_one.mpr (Nat.lt_of_lt_of_le (Nat.succ_pos bs.length) hn)
    have hb : s.fetchByte i = .ok b := h 0 b rfl
    have hbs := ih (n := m) (i := i + 1) (fun k c hk => by
      rw [Nat.add_assoc, Nat.add_comm 1 k]
      exact h (k + 1) c hk) (by simpa using hn)
    rw [State.window, hb]
    simp only [hbs, List.length_cons, List.cons_append, Nat.add_sub_add_right, Nat.add_assoc, Nat.add_comm 1]

/-- Every byte of the window can be fetched; it is full, or the fetch of the next byte stops. -/
theorem State.window_spec (s : State) (n i : Nat) :
    (∀ k b, (s.window n i).1[k]? = some b → s.fetchByte (i + k) = .ok b) ∧
      ((s.window n i).1.length = n ∨
        (s.window n i).1.length < n ∧ ∃ e, s.fetchByte (i + (s.window n i).1.length) = .error e) := by
  induction n generalizing i with
  | zero => exact ⟨fun k b h => by simp [State.window] at h, .inl rfl⟩
  | succ n ih =>
    cases hb : s.fetchByte i with
    | error e =>
      rw [State.window_of_error hb (Nat.succ_pos n)]
      exact ⟨fun k b h => by simp at h, .inr ⟨Nat.succ_pos n, e, hb⟩⟩
    | ok b =>
      have hw : (s.window (n + 1) i).1 = b :: (s.window n (i + 1)).1 := by rw [State.window, hb]
      obtain ⟨hbytes, hstop⟩ := ih (i + 1)
      rw [hw]
      refine ⟨fun k c h => ?_, ?_⟩
      · cases k with
        | zero => cases h; exact hb
        | succ k => rw [← Nat.add_assoc, Nat.add_right_comm]; exact hbytes k c h
      · rw [List.length_cons, ← Nat.add_assoc, Nat.add_right_comm]
        exact hstop.imp (congrArg (· + 1)) fun ⟨hlt, he⟩ => ⟨Nat.succ_lt_succ hlt, he⟩

/-- What is fetched is a window in the sense of the statements. -/
theorem window_fetch (s : State) : Window s s.fetch.1 := by
  obtain ⟨hbytes, hstop⟩ := s.window_spec 15 0
  simp only [Nat.zero_add] at hbytes hstop
  exact ⟨fun k b h => fetchByte_eq_ok.mp (hbytes k b h),
    hstop.imp id fun ⟨hlt, _, he⟩ => ⟨hlt, _, fetchStops_of_error he⟩⟩

/-- Bytes that can all be fetched from `eip` on, at most 15, stand first in what is fetched. -/
theorem State.fetch_eq_append {s : State} {bs : List Byte} (h : ∀ k b, bs[k]? = some b → s.fetchByte k = .ok b)
    (hn : bs.length ≤ 15) :
    s.fetch = (bs ++ (s.window (15 - bs.length) bs.length).1, (s.window (15 - bs.length) bs.length).2) := by
  have hw := State.window_eq_append (i := 0) (fun k b hk => by rw [Nat.zero_add]; exact h k b hk) hn
  rwa [Nat.zero_add] at hw

/-- A full window is what is fetched, and nothing stops the fetch. -/
theorem fetch_of_full {s : State} {bs : List Byte} (h : ∀ k b, bs[k]? = some b → Fetchable s k b)
    (hn : bs.length = 15) : s.fetch = (bs, none) := by
  have hw := State.fetch_eq_append (fun k b hk => fetchByte_of_fetchable (h k b hk)) (Nat.le_of_eq hn)
  simpa [hn, State.window] using hw

/-- A window that ends where the fetch stops is what is fetched, and that is what stops it. -/
theorem fetch_of_stop {s : State} {bs : List Byte} {o : Result} (h : ∀ k b, bs[k]? = some b → Fetchable s k b)
    (hn : bs.length < 15) (ho : FetchStops s bs.length o) :
    ∃ e, s.fetch = (bs, some e) ∧ o = settle s (.error e) := by
  obtain ⟨e, he, hset⟩ := fetchByte_of_fetchStops ho
  have hw := State.fetch_eq_append (fun k b hk => fetchByte_of_fetchable (h k b hk)) (Nat.le_of_lt hn)
  rw [State.window_of_error he (Nat.sub_pos_of_lt hn), List.append_nil] at hw
  exact ⟨e, hw, hset⟩

/-- A window in the sense of the statements is what is fetched. -/
theorem fetch_of_window {s : State} {bs : List Byte} (h : Window s bs) : s.fetch.1 = bs := by
  obtain ⟨hbytes, hn | ⟨hn, o, ho⟩⟩ := h
  · rw [fetch_of_full hbytes hn]
  · obtain ⟨e, he, _⟩ := fetch_of_stop hbytes hn ho
    rw [he]

end Sys2Proof.Machine
end

section
/-! SUPPORT. What a step does, by the bytes fetched at `eip`, and what follows an exception: the statements on the step
(00_scope.md rule R9, 30_encoding.md rules R141, R142, 60_exceptions.md rules R662, R675, R677). -/

namespace Sys2Proof.Machine

open Sys2Proof.Spec

/-! ## Stores may drain -/

@[simp] theorem State.foldl_drainAt_plat (s : State) (l : List Nat) : (l.foldl State.drainAt s).plat = s.plat := by
  induction l generalizing s with
  | nil => rfl
  | cons i is ih => exact (ih _).trans (State.drainAt_plat s i)

@[simp] theorem State.drain_plat (s : State) : s.drain.plat = s.plat := by
  unfold State.drain
  split
  · rfl
  · exact State.foldl_drainAt_plat s _

/-! ## Bytes stored one at a time -/

/-- A store of one byte is one entry. -/
theorem State.storeGroups_single (s : State) (nt : Bool) (a : Nat) (b : Byte) :
    s.storeGroups nt a [b] = [.store nt (s.phys a) [b]] := by
  simp [State.storeGroups, Nat.mod_one]

/-- Bytes stored one at a time add their entries to the buffer and count as stored; nothing else changes. -/
theorem State.storeEach_eq (s : State) (nt : Bool) (a : Nat) (l : List (Nat × Byte)) :
    ∃ new, s.storeEach nt a l = { s with sb := s.sb ++ new, stored := (s.storeEach nt a l).stored } ∧
      ∀ f ∈ new, ∃ p b, f = .store nt p [b] := by
  unfold State.storeEach
  induction l generalizing s with
  | nil => exact ⟨[], by simp, fun _ h => nomatch h⟩
  | cons o os ih =>
    obtain ⟨new, heq, hnew⟩ := ih (s.storeBytes nt (a + o.1) [o.2])
    refine ⟨.store nt (s.phys (a + o.1)) [o.2] :: new, ?_, fun f hf => ?_⟩
    · rw [List.foldl_cons]
      refine heq.trans ?_
      simp [State.storeBytes, State.storeGroups_single]
    · rcases List.mem_cons.mp hf with rfl | hmem
      · exact ⟨_, _, rfl⟩
      · exact hnew f hmem

/-- A delivery changes the integer core, clears the record and pushes single bytes; nothing else changes (log 5). -/
theorem State.deliver_eq (s : State) :
    ∃ new, s.deliver = { s with
        gpr := s.deliver.gpr, eip := s.deliver.eip, eflags := s.deliver.eflags, cpl := s.deliver.cpl,
        segs := s.deliver.segs, sb := s.sb ++ new, stored := s.deliver.stored, raised := none } ∧
      ∀ f ∈ new, ∃ p b, f = .store false p [b] := by
  obtain ⟨new, heq, hnew⟩ := State.storeEach_eq
    { s with
      gpr := (Config.deliver s).1.gpr, eip := (Config.deliver s).1.eip, eflags := (Config.deliver s).1.eflags,
      cpl := (Config.deliver s).1.cpl, segs := (Config.deliver s).1.segs, raised := none }
    false 0 (Config.deliver s).2
  refine ⟨new, ?_, hnew⟩
  simp only [State.deliver_gpr, State.deliver_eip, State.deliver_eflags, State.deliver_cpl, State.deliver_segs]
  exact heq

/-! ## The step -/

theorem step_of_not_raised {s : State} (h : s.raised = none) : step s = runNext s.drain := by
  rw [step, h]

theorem step_of_raised_endRun {s : State} {r : Raised} (h : s.raised = some r) (hd : s.plat.deliver = .endRun) :
    step s = .fault (.exception r) := by
  rw [step, h, hd]

theorem step_of_raised_host {s : State} {r : Raised} (h : s.raised = some r) (hd : s.plat.deliver = .host) :
    step s = .next s.deliver := by
  rw [step, h, hd]

theorem advance_eq (len : Nat) (t : State) :
    advance len t = if t.raised = none then { t with eip := t.eip + BitVec.ofNat 32 len } else t := by
  unfold advance
  cases t.raised <;> rfl

section
variable {s : State} (hs : s.raised = none)
include hs

/-- The step runs the instruction that the fetched bytes decode to, and moves `eip` past it. -/
theorem step_of_instr {i : Instr} {len : Nat} (h : decode s.plat.ext s.drain.fetch.1 = .instr i len) :
    step s = past len (exec i s.drain) := by
  rw [← State.drain_plat] at h
  rw [step_of_not_raised hs, runNext, h]

theorem step_of_undefined (h : decode s.plat.ext s.drain.fetch.1 = .undefined) :
    step s = .next (took s.drain .ud none none) := by
  rw [← State.drain_plat] at h
  rw [step_of_not_raised hs, runNext, h]
  exact congrArg _ (takeException_eq_took ..)

theorem step_of_refused {why : DecodeRefusal} (h : decode s.plat.ext s.drain.fetch.1 = .refused why) :
    step s = .refused (refusalFor why) := by
  rw [← State.drain_plat] at h
  rw [step_of_not_raised hs, runNext, h]
  cases why <;> rfl

theorem step_of_needMore (h : decode s.plat.ext s.drain.fetch.1 = .needMore) :
    step s = settle s.drain (.error (shortFetch s.drain.fetch.2)) := by
  rw [← State.drain_plat] at h
  rw [step_of_not_raised hs, runNext, h]

end

/-! ## The statements -/

/-- Settles O7: the bytes fetched are the one window there is, so each clause is the step's branch for what they decode
to. -/
theorem stepRunsDecoded : Obligations.StepRunsDecoded := by
  intro s hs u
  refine ⟨window_fetch u, fun bs hw => ?_⟩
  obtain rfl : u.fetch.1 = bs := fetch_of_window hw
  refine ⟨fun i len h => ?_, step_of_undefined hs, fun why => step_of_refused hs,
    fun h => ⟨fun hn => ?_, fun hn o ho => ?_⟩⟩
  · rw [step_of_instr hs h]
    cases exec i u with
    | next t => exact congrArg _ (advance_eq len t)
    | fault f => rfl
    | refused r => rfl
  · rw [step_of_needMore hs h, show s.drain.fetch = _ from fetch_of_full hw.1 hn]
    exact congrArg _ (takeException_eq_took ..)
  · obtain ⟨e, he, rfl⟩ := fetch_of_stop hw.1 hn ho
    rw [step_of_needMore hs h, show s.drain.fetch = _ from he]
    rfl

/-- Settles O8: the encoding stands first in the fetched bytes, and decodes to the instruction. -/
theorem stepRunsEncodedBytes : Obligations.StepRunsEncodedBytes := by
  intro s i hs hwf hx hbytes
  have hlen : (encode i).length ≤ 15 := (encode_length_le hwf).trans (by decide)
  have hdec : decode s.plat.ext s.drain.fetch.1 = .instr i (encode i).length := by
    rw [State.fetch_eq_append hbytes hlen]
    exact decode_encode _ hwf hx
  exact ((stepRunsDecoded s hs).2 _ (window_fetch s.drain)).1 i _ hdec

/-- Settles O10: by the two values of DELIVER. -/
theorem exceptionEndsRun : Obligations.ExceptionEndsRun := by
  intro s e code addr x
  refine ⟨step_of_raised_endRun (s := x) rfl, fun hd => ?_, fun hs => ?_, rfl⟩
  · obtain ⟨new, heq, hnew⟩ := x.deliver_eq
    exact ⟨x.deliver, new, step_of_raised_host (s := x) rfl hd, heq, hnew⟩
  · simp only [returnFromException, x, took, hs]

end Sys2Proof.Machine
end

section
/-! SUPPORT. How a meaning is put together: parts that read, and the effect at the end. For both it is said, part by part,
which exceptions they raise and that no privilege level enters them where paging and the alignment check are off
(10_state.md rule R45, 60_exceptions.md rules R660, R679). -/

namespace Sys2Proof.Machine

open Sys2Proof.Spec

/-! ## Another privilege level -/

/-- The state at another privilege level. -/
def State.atCpl (s : State) (c : BitVec 2) : State := { s with cpl := c }

/-- Paging and the alignment check are off: no page range, `cr0.AM` 0. -/
structure State.Unguarded (s : State) : Prop where
  pages : s.plat.pages = []
  am    : s.cr0.getLsbD 18 = false

theorem State.Unguarded.firstPageFault {s : State} (h : s.Unguarded) (k : AccessKind) (a : Nat) (offs : List Nat) :
    s.firstPageFault k a offs = none :=
  firstPageFault_eq_none.mpr fun o _ => pageFault_eq_none.mpr fun r hr => by simp [State.rangeOf, h.pages] at hr

theorem State.Unguarded.acEnabled {s : State} (h : s.Unguarded) : s.acEnabled = false := by
  rw [State.acEnabled, State.am, h.am, Bool.false_and, Bool.false_and]

theorem State.Unguarded.atCpl {s : State} (h : s.Unguarded) (c : BitVec 2) : (s.atCpl c).Unguarded := ⟨h.pages, h.am⟩

theorem State.storeBytes_atCpl (s : State) (c : BitVec 2) (nt : Bool) (a : Nat) (bs : List Byte) :
    (s.atCpl c).storeBytes nt a bs = (s.storeBytes nt a bs).atCpl c := rfl

theorem State.storeEach_atCpl (s : State) (c : BitVec 2) (nt : Bool) (a : Nat) (l : List (Nat × Byte)) :
    (s.atCpl c).storeEach nt a l = (s.storeEach nt a l).atCpl c := by
  unfold State.storeEach
  induction l generalizing s with
  | nil => rfl
  | cons o os ih => exact ih (s.storeBytes nt (a + o.1) [o.2])

theorem restoreImage_atCpl (s : State) (c : BitVec 2) (a : Nat) :
    restoreImage (s.atCpl c) a = (restoreImage s a).atCpl c := by
  unfold restoreImage
  rw [apply_ite (State.atCpl · c)]
  rfl

/-! ## Parts that read -/

/-- An exception gives an address exactly when it is a page fault (60_exceptions.md rule R660). -/
def Raise.Proper (x : Raise) : Prop := x.addr.isSome = true ↔ x.exn = .pf

theorem Raise.plain_proper {e : Exn} (h : e ≠ .pf) : (Raise.plain e).Proper := by simp [Raise.Proper, Raise.plain, h]

theorem Raise.zero_proper {e : Exn} (h : e ≠ .pf) : (Raise.zero e).Proper := by simp [Raise.Proper, Raise.zero, h]

theorem numericFault_proper (s : State) (c : BitVec 6) : (numericFault s c).Proper := by
  unfold numericFault Raise.Proper
  split <;> simp

/-- A part of a meaning that only reads: what it raises is proper, and it reads the same at every privilege level. -/
structure Reads {α : Type} (x : State → Res α) : Prop where
  raises : ∀ s e, x s = .error (.raise e) → e.Proper
  atCpl  : ∀ s c, s.Unguarded → x (s.atCpl c) = x s

theorem Reads.ok {α : Type} {v : State → α} (h : ∀ s c, v (s.atCpl c) = v s) : Reads fun s => (.ok (v s) : Res α) :=
  ⟨fun _ _ he => (nomatch he), fun s c _ => congrArg _ (h s c)⟩

/-- What ends a sequence of two parts ends one of them. -/
theorem res_bind_eq_raise {α β : Type} {x : Res α} {f : α → Res β} {e : Raise} :
    (x >>= f : Res β) = .error (.raise e) ↔
      x = .error (.raise e) ∨ ∃ a, x = .ok a ∧ f a = .error (.raise e) := by
  cases x <;> simp

theorem Reads.bind {α β : Type} {x : State → Res α} {f : α → State → Res β} (hx : Reads x) (hf : ∀ a, Reads (f a)) :
    Reads fun s => x s >>= fun a => f a s where
  raises s e h := by
    rcases res_bind_eq_raise.mp h with h | ⟨a, _, h⟩
    · exact hx.raises s e h
    · exact (hf a).raises s e h
  atCpl s c hs := by
    rw [hx.atCpl s c hs]
    exact congrArg _ (funext fun a => (hf a).atCpl s c hs)

theorem Reads.map {α β : Type} {x : State → Res α} (hx : Reads x) (g : α → β) : Reads fun s => (x s).map g where
  raises s e h := by
    cases hxs : x s with
    | ok a => rw [hxs] at h; cases h
    | error e' => rw [hxs] at h; cases h; exact hx.raises s e hxs
  atCpl s c hs := congrArg _ (hx.atCpl s c hs)

theorem raiseIf_reads {b : State → Bool} {e : Exn} (he : e ≠ .pf) (hb : ∀ s c, b (s.atCpl c) = b s) :
    Reads fun s => raiseIf (b s) e where
  raises s x h := by
    cases hbs : b s with
    | false => rw [hbs] at h; cases h
    | true => rw [hbs] at h; cases h; exact Raise.plain_proper he
  atCpl s c _ := congrArg (raiseIf · e) (hb s c)

theorem checkM_reads (x : Ext) : Reads (checkM x) :=
  .bind (raiseIf_reads (by decide) fun _ _ => rfl) fun _ =>
    .bind (raiseIf_reads (by decide) fun _ _ => rfl) fun _ => raiseIf_reads (by decide) fun _ _ => rfl

theorem checkX_reads (x : Ext) : Reads (checkX x) :=
  .bind (raiseIf_reads (by decide) fun _ _ => rfl) fun _ => raiseIf_reads (by decide) fun _ _ => rfl

theorem checkXM_reads (x : Ext) : Reads (checkXM x) :=
  .bind (checkX_reads x) fun _ => raiseIf_reads (by decide) fun _ _ => rfl

theorem checkFX_reads : Reads checkFX :=
  .bind (raiseIf_reads (by decide) fun _ _ => rfl) fun _ => raiseIf_reads (by decide) fun _ _ => rfl

theorem checkH_reads (x : Ext) : Reads (checkH x) := raiseIf_reads (by decide) fun _ _ => rfl

/-- What the checks of an access raise (20_memory.md rule R83). -/
theorem checkBytes_raises {s : State} {w : Bool} {al : Align} {seg : Seg} {ea : Dword} {offs : List Nat} {e : Raise}
    (h : s.checkBytes w al seg ea offs = .error (.raise e)) : e.Proper := by
  unfold State.checkBytes at h
  simp only [raise] at h
  split at h
  · cases h; exact Raise.zero_proper (by decide)
  · split at h
    · cases h; exact Raise.zero_proper (by split <;> decide)
    · split at h
      · cases h; simp [Raise.Proper]
      · split at h
        · cases h; exact Raise.zero_proper (by decide)
        · split at h
          · cases h
          · split at h <;> cases h

/-- The checks of an access to bytes that the state names. -/
theorem checkBytes_reads (w : Bool) (al : Align) (seg : Seg) {ea : State → Dword} {offs : State → List Nat}
    (hea : ∀ s c, ea (s.atCpl c) = ea s) (hoffs : ∀ s c, offs (s.atCpl c) = offs s) :
    Reads fun s => s.checkBytes w al seg (ea s) (offs s) where
  raises _ _ := checkBytes_raises
  atCpl s c hs := by
    rw [hea, hoffs]
    unfold State.checkBytes
    simp only [hs.firstPageFault, (hs.atCpl c).firstPageFault, hs.acEnabled, (hs.atCpl c).acEnabled]
    rfl

theorem checkAccess_reads (w : Bool) (al : Align) (m : MemOp) (n : Nat) : Reads fun s => s.checkAccess w al m n :=
  checkBytes_reads w al m.seg (fun _ _ => rfl) fun _ _ => rfl

theorem load_reads (al : Align) (m : MemOp) (w : Nat) : Reads fun s => s.load al m w :=
  .bind (checkAccess_reads false al m _) fun _ => .ok fun _ _ => rfl

theorem mmOrMem_reads (w : Nat) (rm : RM) : Reads fun s => s.mmOrMem w rm :=
  match rm with
  | .reg _ => .ok fun _ _ => rfl
  | .mem m => load_reads .checked m w

theorem xmmOrMem_reads (w : Nat) (rm : RM) : Reads fun s => s.xmmOrMem w rm :=
  match rm with
  | .reg _ => .ok fun _ _ => rfl
  | .mem m => load_reads .checked m w

theorem xmmOrMem128_reads (rm : RM) : Reads fun s => s.xmmOrMem128 rm :=
  match rm with
  | .reg _ => .ok fun _ _ => rfl
  | .mem m => load_reads .must16 m 128

theorem gprOrMem_reads (w : Nat) (rm : RM) : Reads fun s => s.gprOrMem w rm :=
  match rm with
  | .reg _ => .ok fun _ _ => rfl
  | .mem m => load_reads .checked m w

theorem packedSource_reads (w : Nat) (rm : RM) : Reads fun s => s.packedSource w rm := by
  unfold State.packedSource
  split
  · exact (xmmOrMem128_reads rm).map _
  · exact xmmOrMem_reads w rm

theorem mmCount_reads (count : Count) : Reads fun s => s.mmCount count :=
  match count with
  | .rm rm => (mmOrMem_reads 64 rm).map _
  | .imm _ => .ok fun _ _ => rfl

theorem xmmCount_reads (count : Count) : Reads fun s => s.xmmCount count :=
  match count with
  | .rm rm => (xmmOrMem128_reads rm).map _
  | .imm _ => .ok fun _ _ => rfl

/-! ## The effect at the end -/

/-- A meaning up to its effect: from `s` it leaves only states that `P s` says; what it raises is proper; at another
privilege level it leaves the same state at that level. -/
structure Does (P : State → State → Prop) (f : State → Res State) : Prop where
  leaves : ∀ s t, f s = .ok t → P s t
  raises : ∀ s e, f s = .error (.raise e) → e.Proper
  atCpl  : ∀ s c, s.Unguarded → f (s.atCpl c) = (f s).map (State.atCpl · c)

variable {P Q : State → State → Prop}

theorem Does.ok {w : State → State} (hw : ∀ s, P s (w s)) (hc : ∀ s c, w (s.atCpl c) = (w s).atCpl c) :
    Does P fun s => .ok (w s) where
  leaves s t h := by cases h; exact hw s
  raises _ _ h := nomatch h
  atCpl s c _ := congrArg _ (hc s c)

theorem Does.bind {α : Type} {x : State → Res α} {f : α → State → Res State} (hx : Reads x) (hf : ∀ a, Does P (f a)) :
    Does P fun s => x s >>= fun a => f a s where
  leaves s t h := by
    obtain ⟨a, _, h⟩ := res_bind_eq_ok.mp h
    exact (hf a).leaves s t h
  raises s e h := by
    rcases res_bind_eq_raise.mp h with h | ⟨a, _, h⟩
    · exact hx.raises s e h
    · exact (hf a).raises s e h
  atCpl s c hs := by
    rw [hx.atCpl s c hs]
    cases x s with
    | ok a => exact (hf a).atCpl s c hs
    | error e => rfl

/-- An effect followed by another one. -/
theorem Does.andThen {f : State → Res State} {g : State → State} (hf : Does P f) (hg : ∀ s t, P s t → Q s (g t))
    (hc : ∀ t c, g (t.atCpl c) = (g t).atCpl c) : Does Q fun s => f s >>= fun t => .ok (g t) where
  leaves s t h := by
    obtain ⟨u, hu, h⟩ := res_bind_eq_ok.mp h
    cases h
    exact hg s u (hf.leaves s u hu)
  raises s e h := by
    rcases res_bind_eq_raise.mp h with h | ⟨a, _, h⟩
    · exact hf.raises s e h
    · cases h
  atCpl s c hs := by
    rw [hf.atCpl s c hs]
    cases f s with
    | ok t => exact congrArg Except.ok (hc t c)
    | error e => rfl

/-- The numeric commit (41_fp_numerics.md rule R294), followed by the write of the result. -/
theorem Does.commit {cond : State → BitVec 6} {w : State → State → State} (hw : ∀ s, P s (w s (flagged s (cond s))))
    (hcond : ∀ s c, cond (s.atCpl c) = cond s) (hc : ∀ s t c, w (s.atCpl c) (t.atCpl c) = (w s t).atCpl c) :
    Does P fun s => commit s (cond s) >>= fun t => .ok (w s t) where
  leaves s t h := by
    obtain ⟨u, hu, h⟩ := res_bind_eq_ok.mp h
    obtain ⟨_, rfl⟩ := commit_eq_ok.mp hu
    cases h
    exact hw s
  raises s e h := by
    rcases res_bind_eq_raise.mp h with h | ⟨a, _, h⟩
    · rcases commit_raise h with rfl | rfl <;> exact numericFault_proper ..
    · cases h
  atCpl s c _ := by
    have hcommit : Machine.commit (s.atCpl c) (cond s) = (Machine.commit s (cond s)).map (State.atCpl · c) := by
      unfold Machine.commit
      rw [apply_ite (Except.map _), apply_ite (Except.map _)]
      rfl
    rw [hcond, hcommit]
    cases Machine.commit s (cond s) with
    | ok t => exact congrArg Except.ok (hc s t c)
    | error e => rfl

/-- An effect that a check on what was read can still stop with #GP(0). -/
theorem Does.unless {b : State → Bool} {w : State → State} (hw : ∀ s, b s = false → P s (w s))
    (hb : ∀ s c, b (s.atCpl c) = b s) (hc : ∀ s c, w (s.atCpl c) = (w s).atCpl c) :
    Does P fun s => if b s then raise (.zero .gp) else .ok (w s) where
  leaves s t h := by
    split at h
    · cases h
    · next hbs => cases h; exact hw s (Bool.eq_false_iff.mpr hbs)
  raises s e h := by
    split at h
    · cases h; exact Raise.zero_proper (by decide)
    · cases h
  atCpl s c _ := by
    rw [hb, hc, apply_ite (Except.map _)]
    rfl

end Sys2Proof.Machine
end

section
/-! SUPPORT. What a completed instruction leaves, said once for every instruction: the register, the stores or the special
effect that its rule names, with the x87 side effects of those that name an MMX register (10_state.md rules R30 to R43). -/

namespace Sys2Proof.Machine

open Sys2Proof.Spec

/-! ## Effects -/

/-- What a completed instruction does to `top` and the tags (R35). -/
inductive X87Role where
  | sets | empties | keeps

/-- The instructions of classes M and XM name an MMX register, but for EMMS (R35, 60_exceptions.md rule R671). -/
def x87Role : Instr → X87Role
  | .emms => .empties
  | i =>
    match (klass i).1 with
    | .m | .xm => .sets
    | _ => .keeps

theorem x87Role_sets {i : Instr} (he : i ≠ .emms) (hk : (klass i).1 = .m ∨ (klass i).1 = .xm) : x87Role i = .sets := by
  unfold x87Role
  split
  · exact absurd rfl he
  · rcases hk with hk | hk <;> rw [hk]

theorem x87Role_keeps {i : Instr} (he : i ≠ .emms) (hm : (klass i).1 ≠ .m) (hxm : (klass i).1 ≠ .xm) :
    x87Role i = .keeps := by
  unfold x87Role
  split
  · exact absurd rfl he
  · cases hk : (klass i).1 with
    | m => exact absurd hk hm
    | xm => exact absurd hk hxm
    | _ => rfl

/-- The four compares that write EFLAGS (R32). -/
def compares : Instr → Bool
  | .comiss .. | .ucomiss .. | .comisd .. | .ucomisd .. => true
  | _ => false

/-- Entries that a store adds to the buffer: pending bytes inside the address space, no markers. -/
def IsStores (new : List SbEntry) : Prop := ∀ e ∈ new, e.inSpace = true ∧ e.isFence = false

/-- What an instruction writes, its x87 side effects aside: nothing; an XMM or a general register that is its destination,
with numeric conditions flagged; the status flags; pending stores; MXCSR without reserved bits; the fields of an image; the
two fences' effects on the buffer. -/
inductive Wrote (i : Instr) (s : State) : State → Prop
  | nothing : Wrote i s s
  | xmm {r : Reg} (hd : xmmDest i = some r) (c : BitVec 6) (v : Xmm) : Wrote i s ((flagged s c).writeXmm r v)
  | gpr {r : Reg} (hd : gprDest i = some r) (c : BitVec 6) (v : Dword) : Wrote i s ((flagged s c).writeGpr r v)
  | eflags (hi : compares i = true) (c : BitVec 6) (r : Relation) :
      Wrote i s { flagged s c with eflags := compareFlags s.eflags r }
  | stores {new : List SbEntry} (hnew : IsStores new) (stored : List (Nat × Nat)) (oracle : Nat) :
      Wrote i s { s with sb := s.sb ++ new, stored := stored, oracle := oracle }
  | mxcsr {m : MemOp} (hi : i = .ldmxcsr m) {v : Dword} (hv : s.mxcsrReserved v = false) :
      Wrote i s { s with mxcsr := v }
  | image {m : MemOp} (hi : i = .fxrstor m) (t : State)
      (hv : t.mxcsr = s.mxcsr ∨ s.mxcsrReserved t.mxcsr = false) :
      Wrote i s { s with
        fcw := t.fcw, fsw := t.fsw, ftw := t.ftw, fop := t.fop, fip := t.fip, fcs := t.fcs, fdp := t.fdp, fds := t.fds,
        fpr := t.fpr, xmm := t.xmm, mxcsr := t.mxcsr }
  | fenced (hi : i = .sfence) : Wrote i s s.fenceStores
  | drained (hi : i = .mfence) : Wrote i s s.drainAll

/-- What a completed instruction leaves: an MMX register written; what it wrote, with the x87 side effects if it names an
MMX register; EMMS's effect (R35). -/
inductive Completes (i : Instr) (s : State) : State → Prop
  | mm {r : Reg} (hk : x87Role i = .sets) (hd : mmDest i = some r) (c : BitVec 6) (v : Qword) :
      Completes i s ((flagged s c).writeMm r v)
  | touched {t : State} (hk : x87Role i = .sets) (hd : mmDest i = none) (h : Wrote i s t) : Completes i s t.touchX87
  | emptied (hk : x87Role i = .empties) : Completes i s s.emptyX87
  | untouched {t : State} (hk : x87Role i = .keeps) (h : Wrote i s t) : Completes i s t

theorem flagged_zero (s : State) : flagged s 0#6 = s := by simp [flagged]

section
variable {i : Instr} {s t : State} {r : Reg}

theorem Wrote.xmmPlain (hd : xmmDest i = some r) (v : Xmm) : Wrote i s (s.writeXmm r v) := by
  simpa only [flagged_zero] using Wrote.xmm (s := s) hd 0#6 v

theorem Wrote.gprPlain (hd : gprDest i = some r) (v : Dword) : Wrote i s (s.writeGpr r v) := by
  simpa only [flagged_zero] using Wrote.gpr (s := s) hd 0#6 v

theorem Completes.mmPlain (hk : x87Role i = .sets) (hd : mmDest i = some r) (v : Qword) :
    Completes i s (s.writeMm r v) := by
  simpa only [flagged_zero] using Completes.mm (s := s) hk hd 0#6 v

/-- A group that lies in one page lies inside the address space. -/
theorem isStores_group {s : State} {nt : Bool} {a : Nat} {bs : List Byte} (hpos : 0 < bs.length)
    (hpage : a % 4096 + bs.length ≤ 4096) :
    (SbEntry.store nt (s.phys a) bs).inSpace = true ∧ (SbEntry.store nt (s.phys a) bs).isFence = false := by
  have hlt := s.phys_lt a
  have hmod := s.phys_mod a
  have hend : s.phys a + bs.length ≤ 0x100000000 := by omega
  exact ⟨by simp only [SbEntry.inSpace, hpos, hend, decide_true, Bool.and_self], rfl⟩

/-- The groups of a store lie inside the address space, wherever it begins: each lies in one page (20_memory.md R91). -/
theorem isStores_storeGroups (s : State) (nt : Bool) (a : Nat) (bs : List Byte) : IsStores (s.storeGroups nt a bs) := by
  unfold State.storeGroups
  simp only
  split
  · next h =>
    simp only [Bool.and_eq_true, Bool.or_eq_true, beq_iff_eq] at h
    obtain ⟨hn, ha⟩ := h
    intro e he
    obtain rfl := List.mem_singleton.mp he
    exact isStores_group (by omega) (by rcases hn with ((hn | hn) | hn) | hn <;> rw [hn] at ha ⊢ <;> omega)
  · split
    · next h =>
      simp only [Bool.and_eq_true, beq_iff_eq] at h
      intro e he
      rcases List.mem_pair.mp he with rfl | rfl
      · exact isStores_group (by rw [List.length_take]; omega) (by rw [List.length_take]; omega)
      · exact isStores_group (by rw [List.length_drop]; omega) (by rw [List.length_drop]; omega)
    · intro e he
      obtain ⟨k, _, rfl⟩ := List.mem_mapIdx.mp he
      exact isStores_group Nat.one_pos (by rw [List.length_singleton]; omega)

theorem Wrote.storeBytes (nt : Bool) (a : Nat) (bs : List Byte) : Wrote i s (s.storeBytes nt a bs) :=
  .stores (isStores_storeGroups s nt a bs) _ s.oracle

theorem IsStores.append {xs ys : List SbEntry} (hx : IsStores xs) (hy : IsStores ys) : IsStores (xs ++ ys) :=
  fun e he => (List.mem_append.mp he).elim (hx e) (hy e)

/-- Bytes stored one at a time add stores to the buffer and count as stored; nothing else changes. -/
theorem State.storeEach_isStores (s : State) (nt : Bool) (a : Nat) (l : List (Nat × Byte)) :
    ∃ new, IsStores new ∧
      s.storeEach nt a l = { s with sb := s.sb ++ new, stored := (s.storeEach nt a l).stored } := by
  unfold State.storeEach
  induction l generalizing s with
  | nil => exact ⟨[], fun _ he => (nomatch he), by simp⟩
  | cons o os ih =>
    obtain ⟨new, hnew, heq⟩ := ih (s.storeBytes nt (a + o.1) [o.2])
    refine ⟨s.storeGroups nt (a + o.1) [o.2] ++ new, IsStores.append (isStores_storeGroups _ _ _ _) hnew, ?_⟩
    rw [List.foldl_cons, ← List.append_assoc]
    exact heq

theorem Wrote.storeEach (nt : Bool) (a : Nat) (l : List (Nat × Byte)) : Wrote i s (s.storeEach nt a l) := by
  obtain ⟨new, hnew, heq⟩ := s.storeEach_isStores nt a l
  rw [heq]
  exact .stores hnew _ s.oracle

/-- FXSAVE's effect: the bytes of the image, and the model's counter. -/
theorem Wrote.save (a : Nat) (l : List (Nat × Byte)) (n : Nat) :
    Wrote i s { s.storeEach false a l with oracle := n } := by
  obtain ⟨new, hnew, heq⟩ := s.storeEach_isStores false a l
  rw [heq]
  exact .stores hnew _ n

theorem Wrote.restoreImage {m : MemOp} (hi : i = .fxrstor m) {a : Nat}
    (hv : (s.osfxsr && s.mxcsrReserved (imageField s a 24 32)) = false) :
    Wrote i s (Machine.restoreImage s a) := by
  unfold Machine.restoreImage
  split
  · next h =>
    rw [h, Bool.true_and] at hv
    exact .image hi
      { restoreX87 s a with
        mxcsr := imageField s a 24 32, xmm := Vector.ofFn fun j => imageField s a (160 + 16 * j.val) 128 } (.inr hv)
  · exact .image hi (restoreX87 s a) (.inl rfl)

end

/-! ## Meanings

The laws of the shared meanings say which state each one answers; here each is read part by part, so that the same proof
says what it raises and that the privilege level does not enter it. -/

/-- The meaning of an instruction: it settles what completes the instruction. -/
def Means (i : Instr) (f : State → Result) : Prop := ∃ body, (∀ s, f s = settle s (body s)) ∧ Does (Completes i) body

section
variable {i : Instr} {x : Ext} {reg : Reg} {rm : RM} {m : MemOp}

/-- The store of a register to memory. -/
theorem store_does {w : Nat} (nt : Bool) (al : Align) (m : MemOp) {v : State → BitVec w}
    (hv : ∀ s c, v (s.atCpl c) = v s) : Does (Wrote i) fun s => s.store nt al m (v s) :=
  .bind (checkAccess_reads true al m _) fun _ =>
    .ok (fun _ => .storeBytes ..) fun s c => by rw [hv, State.storeBytes_atCpl]

theorem maskedStore_does {k : Nat} (seg : Seg) {data mask : State → BitVec k} (hd : ∀ s c, data (s.atCpl c) = data s)
    (hm : ∀ s c, mask (s.atCpl c) = mask s) : Does (Wrote i) fun s => maskedStore (data s) (mask s) seg s :=
  .bind (checkBytes_reads true .free seg (fun _ _ => rfl) fun s c => by rw [hm]) fun _ =>
    .ok (fun _ => .storeEach ..) fun s c => by rw [hd, hm, State.storeEach_atCpl]

theorem Does.untouched {f : State → Res State} (hk : x87Role i = .keeps) (hf : Does (Wrote i) f) :
    Does (Completes i) f where
  leaves s t h := .untouched hk (hf.leaves s t h)
  raises := hf.raises
  atCpl := hf.atCpl

theorem Does.touched {f : State → Res State} (hk : x87Role i = .sets) (hd : mmDest i = none) (hf : Does (Wrote i) f) :
    Does (Completes i) fun s => f s >>= fun t => .ok t.touchX87 :=
  hf.andThen (fun _ _ => .touched hk hd) fun _ _ => rfl

/-! ### How a meaning begins -/

theorem Means.afterM {f : State → Res State} (hf : Does (Completes i) f) :
    Means i fun s => settle s (checkM x s >>= fun _ => f s) := ⟨_, fun _ => rfl, .bind (checkM_reads x) fun _ => hf⟩

theorem Means.afterX {f : State → Res State} (hf : Does (Completes i) f) :
    Means i fun s => settle s (checkX x s >>= fun _ => f s) := ⟨_, fun _ => rfl, .bind (checkX_reads x) fun _ => hf⟩

theorem Means.afterXM {f : State → Res State} (hf : Does (Completes i) f) :
    Means i fun s => settle s (checkXM x s >>= fun _ => f s) := ⟨_, fun _ => rfl, .bind (checkXM_reads x) fun _ => hf⟩

theorem Means.afterFX {f : State → Res State} (hf : Does (Completes i) f) :
    Means i fun s => settle s (checkFX s >>= fun _ => f s) := ⟨_, fun _ => rfl, .bind checkFX_reads fun _ => hf⟩

theorem Means.afterH {f : State → Res State} (hf : Does (Completes i) f) :
    Means i fun s => settle s (checkH x s >>= fun _ => f s) := ⟨_, fun _ => rfl, .bind (checkH_reads x) fun _ => hf⟩

/-! ### How a meaning ends -/

theorem Does.writeMm {v : State → Qword} (hk : x87Role i = .sets) (hd : mmDest i = some reg)
    (hv : ∀ s c, v (s.atCpl c) = v s) : Does (Completes i) fun s => .ok (s.writeMm reg (v s)) :=
  .ok (fun _ => .mmPlain hk hd _) fun s c => congrArg ((s.atCpl c).writeMm reg) (hv s c)

theorem Does.writeXmm {v : State → Xmm} (hk : x87Role i = .keeps) (hd : xmmDest i = some reg)
    (hv : ∀ s c, v (s.atCpl c) = v s) : Does (Completes i) fun s => .ok (s.writeXmm reg (v s)) :=
  .ok (fun _ => .untouched hk (.xmmPlain hd _)) fun s c => congrArg ((s.atCpl c).writeXmm reg) (hv s c)

theorem Does.writeGpr {v : State → Dword} (hk : x87Role i = .keeps) (hd : gprDest i = some reg)
    (hv : ∀ s c, v (s.atCpl c) = v s) : Does (Completes i) fun s => .ok (s.writeGpr reg (v s)) :=
  .ok (fun _ => .untouched hk (.gprPlain hd _)) fun s c => congrArg ((s.atCpl c).writeGpr reg) (hv s c)

/-- The write of an XMM register by an instruction that reads an MMX register. -/
theorem Does.writeXmmTouch {v : State → Xmm} (hk : x87Role i = .sets) (hm : mmDest i = none) (hd : xmmDest i = some reg)
    (hv : ∀ s c, v (s.atCpl c) = v s) : Does (Completes i) fun s => .ok (s.writeXmm reg (v s)).touchX87 :=
  .ok (fun _ => .touched hk hm (.xmmPlain hd _)) fun s c =>
    congrArg (fun v => ((s.atCpl c).writeXmm reg v).touchX87) (hv s c)

/-- The write of a general register by an instruction that reads an MMX register. -/
theorem Does.writeGprTouch {v : State → Dword} (hk : x87Role i = .sets) (hm : mmDest i = none) (hd : gprDest i = some reg)
    (hv : ∀ s c, v (s.atCpl c) = v s) : Does (Completes i) fun s => .ok (s.writeGpr reg (v s)).touchX87 :=
  .ok (fun _ => .touched hk hm (.gprPlain hd _)) fun s c =>
    congrArg (fun v => ((s.atCpl c).writeGpr reg v).touchX87) (hv s c)

/-- No effect. -/
theorem Does.nothing (hk : x87Role i = .keeps) : Does (Completes i) fun s => .ok s :=
  .ok (fun _ => .untouched hk .nothing) fun _ _ => rfl

/-! ### MMX registers -/

theorem mmxOp_means {f : Qword → Qword → Qword} (hk : x87Role i = .sets) (hd : mmDest i = some reg) :
    Means i fun s => mmxOp x f reg rm s :=
  .afterM (.bind (mmOrMem_reads 64 rm) fun _ => .writeMm hk hd fun _ _ => rfl)

theorem mmxLowOp_means {f : Qword → Qword → Qword} (hk : x87Role i = .sets) (hd : mmDest i = some reg) :
    Means i fun s => mmxLowOp x f reg rm s :=
  .afterM (.bind (mmOrMem_reads 32 rm) fun _ => .writeMm hk hd fun _ _ => rfl)

theorem mmxShift_means {f : Nat → Qword → Qword} {count : Count} (hk : x87Role i = .sets) (hd : mmDest i = some reg) :
    Means i fun s => mmxShift f reg count s :=
  .afterM (.bind (mmCount_reads count) fun _ => .writeMm hk hd fun _ _ => rfl)

/-! ### XMM registers -/

theorem xmmOp_means {f : Xmm → Xmm → Xmm} (hk : x87Role i = .keeps) (hd : xmmDest i = some reg) :
    Means i fun s => xmmOp x f reg rm s :=
  .afterX (.bind (xmmOrMem128_reads rm) fun _ => .writeXmm hk hd fun _ _ => rfl)

theorem xmmShift_means {f : Nat → Xmm → Xmm} {count : Count} (hk : x87Role i = .keeps) (hd : xmmDest i = some reg) :
    Means i fun s => xmmShift f reg count s :=
  .afterX (.bind (xmmCount_reads count) fun _ => .writeXmm hk hd fun _ _ => rfl)

theorem xmmLoad_means {al : Align} (hk : x87Role i = .keeps) (hd : xmmDest i = some reg) :
    Means i fun s => xmmLoad x al reg rm s := by
  refine Means.afterX ?_
  cases rm with
  | reg r => exact .writeXmm hk hd fun _ _ => rfl
  | mem m => exact .bind (load_reads al m 128) fun _ => .writeXmm hk hd fun _ _ => rfl

theorem xmmStore_reg_means {al : Align} {r : Reg} (hk : x87Role i = .keeps) (hd : xmmDest i = some r) :
    Means i fun s => xmmStore x al reg (.reg r) s :=
  .afterX (.writeXmm hk hd fun _ _ => rfl)

theorem xmmStore_mem_means {al : Align} (hk : x87Role i = .keeps) : Means i fun s => xmmStore x al reg (.mem m) s :=
  .afterX (.untouched hk (store_does false al m fun _ _ => rfl))

theorem scalarLoad_means {w : Nat} (hk : x87Role i = .keeps) (hd : xmmDest i = some reg) :
    Means i fun s => scalarLoad x w reg rm s := by
  refine Means.afterX ?_
  cases rm with
  | reg r => exact .writeXmm hk hd fun _ _ => rfl
  | mem m => exact .bind (load_reads .checked m w) fun _ => .writeXmm hk hd fun _ _ => rfl

theorem scalarStore_reg_means {w : Nat} {r : Reg} (hk : x87Role i = .keeps) (hd : xmmDest i = some r) :
    Means i fun s => scalarStore x w reg (.reg r) s :=
  .afterX (.writeXmm hk hd fun _ _ => rfl)

theorem scalarStore_mem_means {w : Nat} (hk : x87Role i = .keeps) : Means i fun s => scalarStore x w reg (.mem m) s :=
  .afterX (.untouched hk (store_does false .checked m fun _ _ => rfl))

theorem halfLoad_means {h : Nat} (hk : x87Role i = .keeps) (hd : xmmDest i = some reg) :
    Means i fun s => halfLoad x h reg m s :=
  .afterX (.bind (load_reads .checked m 64) fun _ => .writeXmm hk hd fun _ _ => rfl)

theorem halfStore_means {h : Nat} (hk : x87Role i = .keeps) : Means i fun s => halfStore x h reg m s :=
  .afterX (.untouched hk (store_does false .checked m fun _ _ => rfl))

theorem xmmStoreNt_means (hk : x87Role i = .keeps) : Means i fun s => xmmStoreNt x reg m s :=
  .afterX (.untouched hk (store_does true .must16 m fun _ _ => rfl))

/-! ### Floating point -/

theorem fpPacked_means {n : Nat} {op : LaneOp n} (hk : x87Role i = .keeps) (hd : xmmDest i = some reg) :
    Means i fun s => fpPacked x op reg rm s :=
  .afterX (.bind (xmmOrMem128_reads rm) fun _ =>
    .commit (fun _ => .untouched hk (.xmm hd _ _)) (fun _ _ => rfl) fun _ _ _ => rfl)

theorem fpScalar_means {n : Nat} {op : LaneOp n} (hk : x87Role i = .keeps) (hd : xmmDest i = some reg) :
    Means i fun s => fpScalar x op reg rm s :=
  .afterX (.bind (xmmOrMem_reads n rm) fun _ =>
    .commit (fun _ => .untouched hk (.xmm hd _ _)) (fun _ _ => rfl) fun _ _ _ => rfl)

theorem fpCompare_means {n : Nat} {f : Fmt n} {anyNan : Bool} (hk : x87Role i = .keeps) (hi : compares i = true) :
    Means i fun s => fpCompare x f anyNan reg rm s :=
  .afterX (.bind (xmmOrMem_reads n rm) fun _ =>
    .commit (fun _ => .untouched hk (.eflags hi _ _)) (fun _ _ => rfl) fun _ _ _ => rfl)

theorem cvtPacked_means {k n w c : Nat} {f : Dword → BitVec k → Lane n} (hk : x87Role i = .keeps)
    (hd : xmmDest i = some reg) : Means i fun s => cvtPacked w c f reg rm s :=
  .afterX (.bind (packedSource_reads w rm) fun _ =>
    .commit (fun _ => .untouched hk (.xmm hd _ _)) (fun _ _ => rfl) fun _ _ _ => rfl)

theorem cvtScalar_means {k n : Nat} {f : Dword → BitVec k → Lane n} (hk : x87Role i = .keeps)
    (hd : xmmDest i = some reg) : Means i fun s => cvtScalar f reg rm s :=
  .afterX (.bind (xmmOrMem_reads k rm) fun _ =>
    .commit (fun _ => .untouched hk (.xmm hd _ _)) (fun _ _ => rfl) fun _ _ _ => rfl)

theorem cvtToGpr_means {k : Nat} {f : Dword → BitVec k → Lane 32} (hk : x87Role i = .keeps)
    (hd : gprDest i = some reg) : Means i fun s => cvtToGpr x f reg rm s :=
  .afterX (.bind (xmmOrMem_reads k rm) fun _ =>
    .commit (fun _ => .untouched hk (.gpr hd _ _)) (fun _ _ => rfl) fun _ _ _ => rfl)

theorem cvtFromGpr_means {n : Nat} {f : Dword → Dword → Lane n} (hk : x87Role i = .keeps)
    (hd : xmmDest i = some reg) : Means i fun s => cvtFromGpr x f reg rm s :=
  .afterX (.bind (gprOrMem_reads 32 rm) fun _ =>
    .commit (fun _ => .untouched hk (.xmm hd _ _)) (fun _ _ => rfl) fun _ _ _ => rfl)

theorem cvtToMm_means {k w : Nat} {f : Dword → BitVec k → Lane 32} (hk : x87Role i = .sets)
    (hd : mmDest i = some reg) : Means i fun s => cvtToMm x w f reg rm s :=
  .afterXM (.bind (packedSource_reads w rm) fun _ =>
    .commit (fun _ => .mm hk hd _ _) (fun _ _ => rfl) fun _ _ _ => rfl)

end

/-! ## Every instruction -/

/-- Every instruction settles what completes it: by the shape of its meaning. -/
theorem exec_means : ∀ i, Means i fun s => exec i s
  | .paddbMm .. | .paddwMm .. | .padddMm .. | .paddsbMm .. | .paddswMm .. | .paddusbMm .. | .padduswMm ..
  | .psubbMm .. | .psubwMm .. | .psubdMm .. | .psubsbMm .. | .psubswMm .. | .psubusbMm .. | .psubuswMm ..
  | .pmullwMm .. | .pmulhwMm .. | .pmaddwdMm .. | .pcmpeqbMm .. | .pcmpeqwMm .. | .pcmpeqdMm ..
  | .pcmpgtbMm .. | .pcmpgtwMm .. | .pcmpgtdMm .. | .packsswbMm .. | .packssdwMm .. | .packuswbMm ..
  | .punpckhbwMm .. | .punpckhwdMm .. | .punpckhdqMm .. | .pandMm .. | .pandnMm .. | .porMm .. | .pxorMm ..
  | .pavgbMm .. | .pavgwMm .. | .pmaxswMm .. | .pmaxubMm .. | .pminswMm .. | .pminubMm .. | .pmulhuwMm ..
  | .psadbwMm .. | .paddqMm .. | .psubqMm .. | .pmuludqMm .. => mmxOp_means rfl rfl
  | .punpcklbwMm .. | .punpcklwdMm .. | .punpckldqMm .. => mmxLowOp_means rfl rfl
  | .psllwMm .. | .pslldMm .. | .psllqMm .. | .psrlwMm .. | .psrldMm .. | .psrlqMm .. | .psrawMm ..
  | .psradMm .. => mmxShift_means rfl rfl
  | .andps .. | .andnps .. | .orps .. | .xorps .. | .unpckhps .. | .unpcklps .. | .andpd .. | .andnpd ..
  | .orpd .. | .xorpd .. | .unpckhpd .. | .unpcklpd .. | .paddbXmm .. | .paddwXmm ..
  | .padddXmm .. | .paddsbXmm .. | .paddswXmm .. | .paddusbXmm .. | .padduswXmm .. | .psubbXmm ..
  | .psubwXmm .. | .psubdXmm .. | .psubsbXmm .. | .psubswXmm .. | .psubusbXmm .. | .psubuswXmm ..
  | .pmullwXmm .. | .pmulhwXmm .. | .pmaddwdXmm .. | .pcmpeqbXmm .. | .pcmpeqwXmm .. | .pcmpeqdXmm ..
  | .pcmpgtbXmm .. | .pcmpgtwXmm .. | .pcmpgtdXmm .. | .packsswbXmm .. | .packssdwXmm .. | .packuswbXmm ..
  | .punpckhbwXmm .. | .punpckhwdXmm .. | .punpckhdqXmm .. | .punpcklbwXmm .. | .punpcklwdXmm ..
  | .punpckldqXmm .. | .pandXmm .. | .pandnXmm .. | .porXmm .. | .pxorXmm .. | .pavgbXmm .. | .pavgwXmm ..
  | .pmaxswXmm .. | .pmaxubXmm .. | .pminswXmm .. | .pminubXmm .. | .pmulhuwXmm .. | .psadbwXmm ..
  | .paddqXmm .. | .psubqXmm .. | .pmuludqXmm .. | .punpckhqdqXmm .. | .punpcklqdqXmm .. =>
    xmmOp_means rfl rfl
  | .psllwXmm .. | .pslldXmm .. | .psllqXmm .. | .psrlwXmm .. | .psrldXmm .. | .psrlqXmm .. | .psrawXmm ..
  | .psradXmm .. => xmmShift_means rfl rfl
  | .pshufw reg rm imm => show Means _ fun s => execPshufw reg rm imm s from mmxOp_means rfl rfl
  | .shufps reg rm imm => show Means _ fun s => execShufps reg rm imm s from xmmOp_means rfl rfl
  | .shufpd reg rm imm => show Means _ fun s => execShufpd reg rm imm s from xmmOp_means rfl rfl
  | .pshufd reg rm imm => show Means _ fun s => execPshufd reg rm imm s from xmmOp_means rfl rfl
  | .pshufhw reg rm imm => show Means _ fun s => execPshufhw reg rm imm s from xmmOp_means rfl rfl
  | .pshuflw reg rm imm => show Means _ fun s => execPshuflw reg rm imm s from xmmOp_means rfl rfl
  | .movaps .load .. | .movups .load .. | .movapd .load .. | .movupd .load .. | .movdqa .load ..
  | .movdqu .load .. => xmmLoad_means rfl rfl
  | .movaps .store _ (.reg _) | .movapd .store _ (.reg _) | .movdqa .store _ (.reg _) =>
    xmmStore_reg_means (al := .must16) rfl rfl
  | .movups .store _ (.reg _) | .movupd .store _ (.reg _) | .movdqu .store _ (.reg _) =>
    xmmStore_reg_means (al := .checked) rfl rfl
  | .movaps .store _ (.mem _) | .movups .store _ (.mem _) | .movapd .store _ (.mem _)
  | .movupd .store _ (.mem _) | .movdqa .store _ (.mem _) | .movdqu .store _ (.mem _) =>
    xmmStore_mem_means rfl
  | .movss .load .. | .movsd .load .. => scalarLoad_means rfl rfl
  | .movss .store _ (.reg _) | .movsd .store _ (.reg _) => scalarStore_reg_means rfl rfl
  | .movss .store _ (.mem _) | .movsd .store _ (.mem _) => scalarStore_mem_means rfl
  | .movlps .load .. | .movhps .load .. | .movlpd .load .. | .movhpd .load .. => halfLoad_means rfl rfl
  | .movlps .store .. | .movhps .store .. | .movlpd .store .. | .movhpd .store .. => halfStore_means rfl
  | .movntps .. | .movntpd .. | .movntdq .. => xmmStoreNt_means rfl
  | .addps .. | .subps .. | .mulps .. | .divps .. | .maxps .. | .minps .. | .sqrtps .. | .rcpps ..
  | .rsqrtps .. | .cmpps .. | .addpd .. | .subpd .. | .mulpd .. | .divpd .. | .maxpd .. | .minpd ..
  | .sqrtpd .. | .cmppd .. => fpPacked_means rfl rfl
  | .addss .. | .subss .. | .mulss .. | .divss .. | .maxss .. | .minss .. | .sqrtss .. | .rcpss ..
  | .rsqrtss .. | .cmpss .. | .addsd .. | .subsd .. | .mulsd .. | .divsd .. | .maxsd .. | .minsd ..
  | .sqrtsd .. | .cmpsd .. => fpScalar_means rfl rfl
  | .comiss .. | .ucomiss .. | .comisd .. | .ucomisd .. => fpCompare_means rfl rfl
  | .cvtpd2dq .. | .cvttpd2dq .. | .cvtdq2pd .. | .cvtps2pd .. | .cvtpd2ps .. | .cvtdq2ps .. | .cvtps2dq ..
  | .cvttps2dq .. => cvtPacked_means rfl rfl
  | .cvtss2sd .. | .cvtsd2ss .. => cvtScalar_means rfl rfl
  | .cvtss2si .. | .cvttss2si .. | .cvtsd2si .. | .cvttsd2si .. => cvtToGpr_means rfl rfl
  | .cvtsi2ss .. | .cvtsi2sd .. => cvtFromGpr_means rfl rfl
  | .cvtps2pi .. | .cvttps2pi .. | .cvtpd2pi .. | .cvttpd2pi .. => cvtToMm_means rfl rfl
  | .movhlps .. | .movlhps .. | .pslldq .. | .psrldq .. | .movqXmm .store _ (.reg _) =>
    .afterX (.writeXmm rfl rfl fun _ _ => rfl)
  | .movmskps .. | .movmskpd .. | .pmovmskbXmm .. | .pextrwXmm .. | .movdXmm .store _ (.reg _) =>
    .afterX (.writeGpr rfl rfl fun _ _ => rfl)
  | .movdXmm .load _ rm | .pinsrwXmm _ rm _ =>
    .afterX (.bind (gprOrMem_reads _ rm) fun _ => .writeXmm rfl rfl fun _ _ => rfl)
  | .movqXmm .load _ rm => .afterX (.bind (xmmOrMem_reads _ rm) fun _ => .writeXmm rfl rfl fun _ _ => rfl)
  | .movdXmm .store _ (.mem m) | .movqXmm .store _ (.mem m) | .stmxcsr m =>
    .afterX (.untouched rfl (store_does _ _ m fun _ _ => rfl))
  | .maskmovdqu _ _ seg => .afterX (.untouched rfl (maskedStore_does seg (fun _ _ => rfl) fun _ _ => rfl))
  | .ldmxcsr m =>
    .afterX (.bind (load_reads _ m _) fun _ =>
      .unless (fun _ h => .untouched rfl (.mxcsr rfl h)) (fun _ _ => rfl) fun _ _ => rfl)
  | .cvtpi2pd _ (.mem m) => .afterX (.bind (load_reads _ m _) fun _ => .writeXmm rfl rfl fun _ _ => rfl)
  | .movdMm .load _ rm | .pinsrwMm _ rm _ =>
    .afterM (.bind (gprOrMem_reads _ rm) fun _ => .writeMm rfl rfl fun _ _ => rfl)
  | .movqMm .load _ rm => .afterM (.bind (mmOrMem_reads _ rm) fun _ => .writeMm rfl rfl fun _ _ => rfl)
  | .movqMm .store _ (.reg _) => .afterM (.writeMm rfl rfl fun _ _ => rfl)
  | .movdMm .store _ (.reg _) | .pextrwMm .. | .pmovmskbMm .. =>
    .afterM (.writeGprTouch rfl rfl rfl fun _ _ => rfl)
  | .movdMm .store _ (.mem m) | .movqMm .store _ (.mem m) | .movntq _ m =>
    .afterM (.touched rfl rfl (store_does _ _ m fun _ _ => rfl))
  | .maskmovq _ _ seg => .afterM (.touched rfl rfl (maskedStore_does seg (fun _ _ => rfl) fun _ _ => rfl))
  | .emms => .afterM (.ok (fun _ => .emptied rfl) fun _ _ => rfl)
  | .movdq2q .. => .afterXM (.writeMm rfl rfl fun _ _ => rfl)
  | .movq2dq .. | .cvtpi2pd _ (.reg _) => .afterXM (.writeXmmTouch rfl rfl rfl fun _ _ => rfl)
  | .cvtpi2ps _ rm =>
    .afterXM (.bind (mmOrMem_reads _ rm) fun _ =>
      .commit (fun _ => .touched rfl rfl (.xmm rfl _ _)) (fun _ _ => rfl) fun _ _ _ => rfl)
  | .fxsave m =>
    .afterFX (.bind (checkAccess_reads true .must16 m 512) fun a =>
      .ok (fun _ => .untouched rfl (.save ..)) fun s c => congrArg (fun t : State => { t with oracle := s.oracle + 1 })
        (s.storeEach_atCpl c false a (fxImage s)))
  | .fxrstor m =>
    .afterFX (.bind (checkAccess_reads false .must16 m 512) fun a =>
      .unless (fun _ h => .untouched rfl (.restoreImage rfl h)) (fun _ _ => rfl) fun s c => restoreImage_atCpl s c a)
  | .movnti _ m => .afterH (.untouched rfl (store_does _ _ m fun _ _ => rfl))
  | .clflush m => .afterH (.bind (checkAccess_reads false .free m 1) fun _ => .nothing rfl)
  | .prefetcht0 _ | .prefetcht1 _ | .prefetcht2 _ | .prefetchnta _ | .lfence => .afterH (.nothing rfl)
  | .pause => ⟨_, fun _ => rfl, .nothing rfl⟩
  | .sfence => .afterH (.ok (fun _ => .untouched rfl (.fenced rfl)) fun _ _ => rfl)
  | .mfence => .afterH (.ok (fun _ => .untouched rfl (.drained rfl)) fun _ _ => rfl)

end Sys2Proof.Machine
end

section
/-! SUPPORT. What no instruction changes, and what those that name an MMX register do to the x87 state: the statements of
10_state.md (rules R30 to R46, 60_exceptions.md rule R679), each by the cases of what an instruction completes with. -/

namespace Sys2Proof.Machine

open Sys2Proof.Spec

section
variable {i : Instr} {s t : State}

/-! ## What executing an instruction does -/

/-- An executed instruction completes, or takes an exception. -/
theorem exec_next (h : exec i s = .next t) : Completes i s t ∨ ∃ x : Raise, x.Proper ∧ t = takeException s x := by
  obtain ⟨body, hbody, hdoes⟩ := exec_means i
  rw [show exec i s = _ from hbody s] at h
  rcases settle_next h with h | ⟨x, hx, rfl⟩
  · exact .inl (hdoes.leaves s t h)
  · exact .inr ⟨x, hdoes.raises s x hx, rfl⟩

theorem exec_not_fault (i : Instr) (s : State) (f : Fault) : exec i s ≠ .fault f := by
  obtain ⟨body, hbody, _⟩ := exec_means i
  rw [show exec i s = _ from hbody s]
  exact settle_not_fault _ _ f

/-- Where no exception is recorded after it, the instruction completed. -/
theorem exec_completes (h : exec i s = .next t) (ht : t.raised = none) : Completes i s t := by
  rcases exec_next h with h | ⟨x, _, rfl⟩
  · exact h
  · cases ht

/-- What neither MXCSR nor the x87 registers, `top` and tags enter is kept if it is kept by what the instruction writes. -/
theorem Completes.kept {α : Type} {f : State → α} (h : Completes i s t)
    (hf : ∀ u fpr fsw ftw mxcsr, f { u with fpr := fpr, fsw := fsw, ftw := ftw, mxcsr := mxcsr } = f u)
    (hw : ∀ u, Wrote i s u → f u = f s) : f t = f s := by
  cases h with
  | mm => exact hf s ..
  | @touched u _ _ h => exact (hf u u.fpr (fswTop0 u.fsw) 0#16 u.mxcsr).trans (hw u h)
  | emptied => exact hf s s.fpr (fswTop0 s.fsw) 0xFFFF#16 s.mxcsr
  | untouched _ h => exact hw t h

/-! ## Control state (R42, R43, R45, R46) -/

/-- The fields that no instruction writes by itself. -/
def State.control (s : State) : Dword × Dword × Dword × BitVec 2 × Segments × Platform × Dword :=
  (s.cr0, s.cr2, s.cr4, s.cpl, s.segs, s.plat, s.eip)

theorem Wrote.control (h : Wrote i s t) : t.control = s.control := by cases h <;> rfl

theorem Completes.control (h : Completes i s t) : t.control = s.control :=
  h.kept (fun _ _ _ _ _ => rfl) fun _ => Wrote.control

/-! ## EFLAGS (R32) -/

/-- A compare writes none of the other bits than the six status flags. -/
theorem compareFlags_others (e : Dword) (r : Relation) : compareFlags e r &&& 0xFFFFF72A#32 = e &&& 0xFFFFF72A#32 := by
  have hr : r.flags &&& 0xFFFFF72A#32 = 0#32 := by cases r <;> rfl
  rw [compareFlags, BitVec.and_or_distrib_right, hr, BitVec.and_assoc]
  exact BitVec.or_zero

theorem Wrote.eflags_kept (h : Wrote i s t) (hi : compares i = false) : t.eflags = s.eflags := by
  cases h with
  | eflags hc => cases hc.symm.trans hi
  | _ => rfl

theorem Wrote.eflags_others (h : Wrote i s t) : t.eflags &&& 0xFFFFF72A#32 = s.eflags &&& 0xFFFFF72A#32 := by
  cases h with
  | eflags _ c r => exact compareFlags_others s.eflags r
  | _ => rfl

theorem Completes.eflags_kept (h : Completes i s t) (hi : compares i = false) : t.eflags = s.eflags :=
  h.kept (f := State.eflags) (fun _ _ _ _ _ => rfl) fun _ hw => hw.eflags_kept hi

theorem Completes.eflags_others (h : Completes i s t) : t.eflags &&& 0xFFFFF72A#32 = s.eflags &&& 0xFFFFF72A#32 :=
  h.kept (f := fun u => u.eflags &&& 0xFFFFF72A#32) (fun _ _ _ _ _ => rfl) fun _ hw => hw.eflags_others

/-! ## MXCSR (R40) -/

/-- `m'` is `m` with numeric conditions flagged, at most. -/
def FlagsOnly (m m' : Dword) : Prop := ∃ c : BitVec 6, m' = mxOr m c

theorem FlagsOnly.refl (m : Dword) : FlagsOnly m m := ⟨0#6, by simp [mxOr]⟩

theorem FlagsOnly.control_bits {m m' : Dword} (h : FlagsOnly m m') : m' &&& 0xFFFFFFC0#32 = m &&& 0xFFFFFFC0#32 := by
  obtain ⟨c, rfl⟩ := h
  have hc : c.setWidth 32 &&& 0xFFFFFFC0#32 = 0#32 := by revert c; decide
  rw [mxOr, BitVec.and_or_distrib_right, hc, BitVec.or_zero]

theorem FlagsOnly.sticky {m m' : Dword} (h : FlagsOnly m m') : m' &&& m = m := by
  obtain ⟨c, rfl⟩ := h
  ext k hk
  simp only [mxOr, BitVec.getElem_and, BitVec.getElem_or]
  cases m[k] <;> simp

/-- The two instructions that load MXCSR. -/
def loadsMxcsr : Instr → Bool
  | .ldmxcsr _ | .fxrstor _ => true
  | _ => false

theorem Wrote.mxcsr_flagsOnly (h : Wrote i s t) (hi : loadsMxcsr i = false) : FlagsOnly s.mxcsr t.mxcsr := by
  cases h with
  | xmm _ c => exact ⟨c, rfl⟩
  | gpr _ c => exact ⟨c, rfl⟩
  | eflags _ c => exact ⟨c, rfl⟩
  | mxcsr h => subst h; cases hi
  | image h => subst h; cases hi
  | _ => exact .refl s.mxcsr

theorem Completes.mxcsr_flagsOnly (h : Completes i s t) (hi : loadsMxcsr i = false) : FlagsOnly s.mxcsr t.mxcsr := by
  cases h with
  | mm _ _ c => exact ⟨c, rfl⟩
  | emptied => exact .refl s.mxcsr
  | touched _ _ h => exact h.mxcsr_flagsOnly hi
  | untouched _ h => exact h.mxcsr_flagsOnly hi

/-! ## The x87 state (R33, R35) -/

theorem Wrote.x87_kept (h : Wrote i s t) (hi : ∀ m, i ≠ .fxrstor m) : t.fpr = s.fpr ∧ t.ftw = s.ftw ∧ t.fsw = s.fsw := by
  cases h with
  | image h => exact absurd h (hi _)
  | _ => exact ⟨rfl, rfl, rfl⟩

/-- Bits 79:64 of a physical register that an MMX write filled with ones. -/
theorem extractLsb'_mmWritten (v : Qword) : (0xFFFF#16 ++ v : Fpr).extractLsb' 64 16 = 0xFFFF#16 :=
  BitVec.extractLsb'_append_eq_left

theorem Completes.x87_of_sets (h : Completes i s t) (hk : x87Role i = .sets) (hf : ∀ m, i ≠ .fxrstor m) :
    t.ftw = 0#16 ∧ t.fsw = s.fsw &&& 0xC7FF#16 ∧
      (∀ r, mmDest i = some r → (t.fpr.get r.toFin).extractLsb' 64 16 = 0xFFFF#16) ∧
      ∀ r : Reg, mmDest i ≠ some r → t.fpr.get r.toFin = s.fpr.get r.toFin := by
  cases h with
  | @mm r _ hd c v =>
    refine ⟨rfl, rfl, fun r' hr' => ?_, fun r' hr' => ?_⟩
    · obtain rfl := Option.some.inj (hd.symm.trans hr')
      exact (congrArg _ (State.readFpr_writeMm (flagged s c) r v)).trans (extractLsb'_mmWritten v)
    · have hne : r ≠ r' := fun h => hr' (h ▸ hd)
      exact (State.readFpr_writeFpr (flagged s c) r r' _).trans (if_neg hne)
  | @touched u _ hd h =>
    obtain ⟨hfpr, _, hfsw⟩ := h.x87_kept hf
    refine ⟨rfl, congrArg fswTop0 hfsw, fun r hr => ?_, fun r _ => congrArg (·.get r.toFin) hfpr⟩
    cases hd.symm.trans hr
  | emptied hk' => cases hk'.symm.trans hk
  | untouched hk' => cases hk'.symm.trans hk

theorem Completes.x87_of_keeps (h : Completes i s t) (hk : x87Role i = .keeps) (hf : ∀ m, i ≠ .fxrstor m) :
    t.fpr = s.fpr ∧ t.ftw = s.ftw ∧ t.fsw = s.fsw := by
  cases h with
  | mm hk' => cases hk'.symm.trans hk
  | touched hk' => cases hk'.symm.trans hk
  | emptied hk' => cases hk'.symm.trans hk
  | untouched _ h => exact h.x87_kept hf

/-! ## Register files (R30, R37) -/

theorem Wrote.gpr_kept (h : Wrote i s t) {r : Reg} (hr : gprDest i ≠ some r) : t.readGpr r = s.readGpr r := by
  cases h with
  | @gpr d hd c v => exact (State.readGpr_writeGpr (flagged s c) d r v).trans (if_neg fun e : d = r => hr (e ▸ hd))
  | _ => rfl

theorem Completes.gpr_kept (h : Completes i s t) {r : Reg} (hr : gprDest i ≠ some r) : t.readGpr r = s.readGpr r :=
  h.kept (f := fun u => u.readGpr r) (fun _ _ _ _ _ => rfl) fun _ hw => hw.gpr_kept hr

theorem Wrote.xmm_kept (h : Wrote i s t) (hi : ∀ m, i ≠ .fxrstor m) {r : Reg} (hr : xmmDest i ≠ some r) :
    t.readXmm r = s.readXmm r := by
  cases h with
  | @xmm d hd c v => exact (State.readXmm_writeXmm (flagged s c) d r v).trans (if_neg fun e : d = r => hr (e ▸ hd))
  | image h => exact absurd h (hi _)
  | _ => rfl

theorem Completes.xmm_kept (h : Completes i s t) (hi : ∀ m, i ≠ .fxrstor m) {r : Reg} (hr : xmmDest i ≠ some r) :
    t.readXmm r = s.readXmm r :=
  h.kept (f := fun u => u.readXmm r) (fun _ _ _ _ _ => rfl) fun _ hw => hw.xmm_kept hi hr

/-- The x87 fields that the instructions only save and restore (R33, R426). -/
def State.opaqueX87 (s : State) : BitVec 16 × BitVec 11 × Dword × BitVec 16 × Dword × BitVec 16 :=
  (s.fcw, s.fop, s.fip, s.fcs, s.fdp, s.fds)

theorem Wrote.opaqueX87 (h : Wrote i s t) (hi : ∀ m, i ≠ .fxrstor m) : t.opaqueX87 = s.opaqueX87 := by
  cases h with
  | image h => exact absurd h (hi _)
  | _ => rfl

theorem Completes.opaqueX87 (h : Completes i s t) (hi : ∀ m, i ≠ .fxrstor m) : t.opaqueX87 = s.opaqueX87 :=
  h.kept (fun _ _ _ _ _ => rfl) fun _ hw => hw.opaqueX87 hi

end

/-! ## The statements -/

/-- Settles O15: what completes an instruction keeps every control field, and an exception writes CR2 alone, with the
address that only a page fault has. -/
theorem controlStateIsNeverWritten : Obligations.ControlStateIsNeverWritten := by
  refine fun i s => ⟨exec_not_fault i s, fun t h => ?_⟩
  rcases exec_next h with h | ⟨x, hx, rfl⟩
  · have hc := h.control
    simp only [State.control, Prod.mk.injEq] at hc
    obtain ⟨hcr0, hcr2, hcr4, hcpl, hsegs, hplat, heip⟩ := hc
    exact ⟨hcr0, hcr4, hcpl, hsegs, hplat, heip, .inl hcr2⟩
  · refine ⟨rfl, rfl, rfl, rfl, rfl, rfl, ?_⟩
    cases ha : x.addr with
    | none => exact .inl (by rw [takeException_cr2, ha]; rfl)
    | some a => exact .inr ⟨_, rfl, hx.mp (by rw [ha]; rfl)⟩

/-- Settles O16: of what an instruction can write, only a compare's effect touches EFLAGS. -/
theorem eflagsOnlyByCompares : Obligations.EflagsOnlyByCompares := by
  intro i s t h
  have hothers : t.eflags &&& 0xFFFFF72A#32 = s.eflags &&& 0xFFFFF72A#32 := by
    rcases exec_next h with h | ⟨x, _, rfl⟩
    · exact h.eflags_others
    · rfl
  have hkept : compares i = false → t.eflags = s.eflags := fun hi => by
    rcases exec_next h with h | ⟨x, _, rfl⟩
    · exact h.eflags_kept hi
    · rfl
  split
  · exact hothers
  · exact hothers
  · exact hothers
  · exact hothers
  · next h1 h2 h3 h4 => exact hkept (by unfold compares; split <;> simp_all)

/-- Settles O17: what an instruction completes with and what an exception records are flags ORed in. -/
theorem mxcsrFlagsAreSticky : Obligations.MxcsrFlagsAreSticky := by
  intro i s t h
  have hflags : loadsMxcsr i = false → FlagsOnly s.mxcsr t.mxcsr := fun hi => by
    rcases exec_next h with h | ⟨x, _, rfl⟩
    · exact h.mxcsr_flagsOnly hi
    · exact ⟨x.conditions, rfl⟩
  split
  · trivial
  · trivial
  · next h1 h2 =>
    have hf := hflags (by unfold loadsMxcsr; split <;> simp_all)
    exact ⟨hf.control_bits, hf.sticky⟩

/-- Settles O18: by whether the instruction names an MMX register. -/
theorem x87SideEffects : Obligations.X87SideEffects := by
  intro i s t _ h ht
  have hc := exec_completes h ht
  split
  · trivial
  · cases hc with
    | emptied => exact ⟨rfl, rfl, rfl⟩
    | mm hk => cases hk
    | touched hk => cases hk
    | untouched hk => cases hk
  · next hf he =>
    split
    · next hk => exact hc.x87_of_sets (x87Role_sets he (.inl hk)) hf
    · next hk => exact hc.x87_of_sets (x87Role_sets he (.inr hk)) hf
    · next hm hxm => exact hc.x87_of_keeps (x87Role_keeps he hm hxm) hf

/-- Settles O19: a register file is only written at its destination, the opaque fields by FXRSTOR alone; an exception writes
neither. -/
theorem registerFilesKept : Obligations.RegisterFilesKept := by
  intro i s t h
  rcases exec_next h with h | ⟨x, _, rfl⟩
  · refine ⟨fun r hr => h.gpr_kept hr, ?_⟩
    split
    · trivial
    · next hi =>
      have ho := h.opaqueX87 hi
      simp only [State.opaqueX87, Prod.mk.injEq] at ho
      exact ⟨fun r hr => h.xmm_kept hi hr, ho⟩
  · refine ⟨fun _ _ => rfl, ?_⟩
    split
    · trivial
    · exact ⟨fun _ _ => rfl, rfl, rfl, rfl, rfl, rfl, rfl⟩

/-- Settles O20: the meaning reads and raises the same at every privilege level, and leaves the same state but for the
level; so does taking an exception. -/
theorem privilegeDoesNotMatter : Obligations.PrivilegeDoesNotMatter := by
  intro i s c hp ham
  obtain ⟨body, hbody, hdoes⟩ := exec_means i
  have hs := hbody (s.atCpl c)
  rw [hdoes.atCpl s c ⟨hp, ham⟩] at hs
  rw [show exec i s = _ from hbody s]
  refine Eq.trans hs ?_
  cases body s with
  | ok t => rfl
  | error e => cases e <;> rfl

end Sys2Proof.Machine
end

section
/-! SUPPORT. The invariant: at reset, and from every state after every step (10_state.md rules R40, R52, R721; 20_memory.md
rules R80, R95, R96). -/

namespace Sys2Proof.Machine

open Sys2Proof.Spec

/-! ## Memory inside the address space (20_memory.md rule R80) -/

theorem Memory.inSpace_cons {a : Nat} {b : Byte} {m : List Host.Cell} (ha : a < 0x100000000)
    (h : Memory.inSpace m = true) : Memory.inSpace (Memory.cons a b m) = true := by
  unfold Memory.cons
  split
  · exact h
  · simpa [Memory.inSpace, ha] using h

theorem Memory.inSpace_write {a : Nat} {b : Byte} {m : List Host.Cell} (ha : a < 0x100000000)
    (h : Memory.inSpace m = true) : Memory.inSpace (Memory.write m a b) = true := by
  induction m with
  | nil => exact Memory.inSpace_cons ha h
  | cons c m ih =>
    obtain ⟨hc, hm⟩ : c.1 < 0x100000000 ∧ Memory.inSpace m = true := by simpa [Memory.inSpace] using h
    unfold Memory.write
    split
    · simpa [Memory.inSpace, hc] using ih hm
    · split
      · exact Memory.inSpace_cons ha hm
      · exact Memory.inSpace_cons ha h

theorem Memory.inSpace_writeBytes {a : Nat} {bs : List Byte} {m : List Host.Cell}
    (ha : a + bs.length ≤ 0x100000000) (h : Memory.inSpace m = true) :
    Memory.inSpace (Memory.writeBytes m a bs) = true := by
  induction bs generalizing m a with
  | nil => exact h
  | cons b bs ih =>
    rw [List.length_cons] at ha
    exact ih (by omega) (Memory.inSpace_write (by omega) h)

/-- A pending store inside the address space drains to memory inside it. -/
theorem Memory.inSpace_apply {e : SbEntry} {m : List Host.Cell} (he : e.inSpace = true) (h : Memory.inSpace m = true) :
    Memory.inSpace (e.apply m) = true := by
  cases e with
  | store nt a bs =>
    obtain ⟨_, ha⟩ : 0 < bs.length ∧ a + bs.length ≤ 0x100000000 := by simpa [SbEntry.inSpace] using he
    exact Memory.inSpace_writeBytes ha h
  | sf => exact h

/-- Draining a whole buffer keeps memory canonical and inside the address space. -/
theorem Memory.foldl_apply_inv {sb : List SbEntry} {m : List Host.Cell} (hsb : sb.all SbEntry.inSpace = true)
    (hwf : Memory.wf m = true) (hspace : Memory.inSpace m = true) :
    Memory.wf (sb.foldl SbEntry.apply m) = true ∧ Memory.inSpace (sb.foldl SbEntry.apply m) = true := by
  induction sb generalizing m with
  | nil => exact ⟨hwf, hspace⟩
  | cons e es ih =>
    obtain ⟨he, hes⟩ : e.inSpace = true ∧ es.all SbEntry.inSpace = true := by simpa using hsb
    exact ih hes (Memory.wf_apply e hwf) (Memory.inSpace_apply he hspace)

/-! ## The store buffer (20_memory.md rule R96) -/

theorem inSpace_of_subset {xs ys : List SbEntry} (hsub : xs ⊆ ys) (h : ys.all SbEntry.inSpace = true) :
    xs.all SbEntry.inSpace = true :=
  List.all_eq_true.mpr fun e he => List.all_eq_true.mp h e (hsub he)

theorem dropFences_subset (sb : List SbEntry) : dropFences sb ⊆ sb := (List.dropWhile_sublist _).subset

/-- Stores behind a buffer that no marker heads leave no marker at its head. -/
theorem fenceNotFirst_append {sb new : List SbEntry} (h : fenceNotFirst sb = true) (hnew : IsStores new) :
    fenceNotFirst (sb ++ new) = true := by
  cases sb with
  | cons e es =>
    cases e with
    | store => rfl
    | sf => cases h
  | nil =>
    cases new with
    | nil => rfl
    | cons e es =>
      cases e with
      | store => rfl
      | sf => cases (hnew .sf (List.mem_cons_self ..)).2

/-! ## MXCSR's reserved bits (10_state.md rule R40) -/

/-- Numeric conditions are no reserved bits of MXCSR. -/
theorem mxcsrReserved_mxOr (s : State) (v : Dword) (c : BitVec 6) : s.mxcsrReserved (mxOr v c) = s.mxcsrReserved v := by
  have hc : c.setWidth 32 &&& ~~~s.mxcsrMask = 0#32 := by
    unfold State.mxcsrMask
    split <;> revert c <;> decide
  rw [State.mxcsrReserved, mxOr, BitVec.and_or_distrib_right, hc, BitVec.or_zero, State.mxcsrReserved]

theorem mxcsrReserved_congr {s t : State} (h : t.plat = s.plat) (v : Dword) : t.mxcsrReserved v = s.mxcsrReserved v := by
  simp only [State.mxcsrReserved, State.mxcsrMask, h]

/-! ## What keeps the invariant -/

section
variable {i : Instr} {s t : State}

/-- A state with the same memory and buffer, whose MXCSR has at most conditions flagged in addition. -/
theorem State.Inv.of_same (h : s.Inv) (hmem : t.mem = s.mem) (hsb : t.sb = s.sb) (hplat : t.plat = s.plat)
    (hmx : FlagsOnly s.mxcsr t.mxcsr) : t.Inv := by
  obtain ⟨hwf, hspace, hall, hfirst, hres⟩ := h
  obtain ⟨c, hc⟩ := hmx
  refine ⟨hmem ▸ hwf, hmem ▸ hspace, hsb ▸ hall, hsb ▸ hfirst, ?_⟩
  rw [hc, mxcsrReserved_mxOr, mxcsrReserved_congr hplat, hres]

theorem State.Inv.append (h : s.Inv) {new : List SbEntry} (hnew : IsStores new) :
    State.Inv { s with sb := s.sb ++ new } := by
  obtain ⟨hwf, hspace, hall, hfirst, hres⟩ := h
  refine ⟨hwf, hspace, ?_, fenceNotFirst_append hfirst hnew, hres⟩
  rw [List.all_append, hall, Bool.true_and]
  exact List.all_eq_true.mpr fun e he => (hnew e he).1

theorem State.Inv.mxcsr (h : s.Inv) {v : Dword} (hv : s.mxcsrReserved v = false) : State.Inv { s with mxcsr := v } := by
  obtain ⟨hwf, hspace, hall, hfirst, _⟩ := h
  exact ⟨hwf, hspace, hall, hfirst, hv⟩

theorem State.Inv.drainAll (h : s.Inv) : s.drainAll.Inv := by
  obtain ⟨hwf, hspace, hall, _, hres⟩ := h
  obtain ⟨hwf', hspace'⟩ := Memory.foldl_apply_inv hall hwf hspace
  exact ⟨hwf', hspace', rfl, rfl, hres⟩

theorem State.Inv.fenceStores (h : s.Inv) : s.fenceStores.Inv := by
  obtain ⟨hwf, hspace, hall, _, hres⟩ := h
  have hall' : (s.sb ++ [SbEntry.sf]).all SbEntry.inSpace = true := by rw [List.all_append, hall]; rfl
  exact ⟨hwf, hspace, inSpace_of_subset (dropFences_subset _) hall', fenceNotFirst_dropFences _, hres⟩

theorem State.Inv.drainAt (h : s.Inv) (k : Nat) : (s.drainAt k).Inv := by
  have hs := h
  obtain ⟨hwf, hspace, hall, _, hres⟩ := h
  unfold State.drainAt
  split
  · exact hs
  · next e he =>
    split
    · have hin : e.inSpace = true := List.all_eq_true.mp hall e (List.mem_of_getElem? he)
      have hsub : dropFences (s.sb.eraseIdx k) ⊆ s.sb := fun f hf => List.mem_of_mem_eraseIdx (dropFences_subset _ hf)
      exact ⟨Memory.wf_apply e hwf, Memory.inSpace_apply hin hspace, inSpace_of_subset hsub hall,
        fenceNotFirst_dropFences _, hres⟩
    · exact hs

theorem State.Inv.drain (h : s.Inv) : s.drain.Inv := by
  have hfold : ∀ l : List Nat, (l.foldl State.drainAt s).Inv := fun l => by
    induction l generalizing s with
    | nil => exact h
    | cons k ks ih => exact ih (h.drainAt k)
  unfold State.drain
  split
  · exact h
  · exact (hfold _).of_same rfl rfl rfl (.refl _)

theorem State.Inv.storeEach (h : s.Inv) (nt : Bool) (a : Nat) (l : List (Nat × Byte)) : (s.storeEach nt a l).Inv := by
  obtain ⟨new, hnew, heq⟩ := s.storeEach_isStores nt a l
  rw [heq]
  exact (h.append hnew).of_same rfl rfl rfl (.refl _)

theorem State.Inv.deliver (h : s.Inv) : s.deliver.Inv := by
  refine State.Inv.storeEach ?_ false 0 _
  exact h.of_same rfl rfl rfl (.refl _)

theorem State.Inv.wrote (h : s.Inv) (hw : Wrote i s t) : t.Inv := by
  cases hw with
  | nothing => exact h
  | xmm _ c => exact h.of_same rfl rfl rfl ⟨c, rfl⟩
  | gpr _ c => exact h.of_same rfl rfl rfl ⟨c, rfl⟩
  | eflags _ c => exact h.of_same rfl rfl rfl ⟨c, rfl⟩
  | stores hnew => exact (h.append hnew).of_same rfl rfl rfl (.refl _)
  | mxcsr _ hv => exact h.mxcsr hv
  | image _ u hv =>
    rcases hv with hv | hv
    · exact h.of_same rfl rfl rfl (hv ▸ .refl _)
    · exact (h.mxcsr hv).of_same rfl rfl rfl (.refl _)
  | fenced => exact h.fenceStores
  | drained => exact h.drainAll

theorem State.Inv.completes (h : s.Inv) (hc : Completes i s t) : t.Inv := by
  cases hc with
  | mm _ _ c => exact h.of_same rfl rfl rfl ⟨c, rfl⟩
  | emptied => exact h.of_same rfl rfl rfl (.refl _)
  | touched _ _ hw => exact (h.wrote hw).of_same rfl rfl rfl (.refl _)
  | untouched _ hw => exact h.wrote hw

theorem State.Inv.takeException (h : s.Inv) (x : Raise) : (takeException s x).Inv :=
  h.of_same rfl rfl rfl ⟨x.conditions, rfl⟩

theorem State.Inv.exec (h : s.Inv) (he : exec i s = .next t) : t.Inv := by
  rcases exec_next he with hc | ⟨x, _, rfl⟩
  · exact h.completes hc
  · exact h.takeException x

theorem State.Inv.advance (h : s.Inv) (len : Nat) : (advance len s).Inv :=
  h.of_same (by simp) (by simp) (by simp) (by simpa using .refl _)

/-- A meaning that stops before its effect leaves at most the record of an exception. -/
theorem State.Inv.stopped (h : s.Inv) {e : Stop} (he : settle s (.error e) = .next t) : t.Inv := by
  cases e with
  | raise x => cases he; exact h.takeException x
  | refuse r => cases he

theorem State.Inv.runNext (h : s.Inv) (hr : runNext s = .next t) : t.Inv := by
  unfold Machine.runNext at hr
  split at hr
  · next i len _ =>
    cases he : Machine.exec i s with
    | next u => rw [he] at hr; cases hr; exact (h.exec he).advance len
    | fault f => rw [he] at hr; cases hr
    | refused r => rw [he] at hr; cases hr
  · exact h.stopped hr
  · cases hr
  · exact h.stopped hr

theorem State.Inv.step (h : s.Inv) (hs : step s = .next t) : t.Inv := by
  unfold Machine.step at hs
  split at hs
  · split at hs
    · cases hs
    · cases hs; exact h.deliver
  · exact h.drain.runNext hs

end

/-! ## The statements -/

/-- Settles O3: what drains, what the instruction does, an exception taken and its delivery each keep the invariant. -/
theorem stepKeepsInvariant : Obligations.StepKeepsInvariant := fun _ _ h hs => h.step hs

/-- Settles O2: the reset state has no memory listed and nothing pending. -/
theorem invariantAtReset : Obligations.InvariantAtReset := ⟨rfl, rfl, rfl, rfl, by decide⟩

/-- The mask of CD and NW, bits 30 and 29 of CR0. -/
theorem getLsbD_cdNw (b : Nat) : (0x60000000#32).getLsbD b = decide (b = 29 ∨ b = 30) := by
  by_cases hb : b < 32
  · revert b
    decide
  · rw [BitVec.getLsbD_of_ge _ _ (Nat.not_lt.mp hb)]
    exact (decide_eq_false (by omega)).symm

/-- INIT keeps CD and NW of CR0 and resets its other bits (R52, R721). -/
theorem State.init_cr0_getLsbD (s : State) (b : Nat) :
    s.init.cr0.getLsbD b = if b = 29 ∨ b = 30 then s.cr0.getLsbD b else State.reset.cr0.getLsbD b := by
  have hcr0 : s.init.cr0 = (State.reset.cr0 &&& ~~~0x60000000#32) ||| (s.cr0 &&& 0x60000000#32) := rfl
  rw [hcr0, BitVec.getLsbD_or, BitVec.getLsbD_and, BitVec.getLsbD_and, BitVec.getLsbD_not, getLsbD_cdNw]
  split
  · next h => simp [h]
  · next h =>
    by_cases hb : b < 32
    · simp [h, hb]
    · simp [h, BitVec.getLsbD_of_ge _ _ (Nat.not_lt.mp hb)]

/-- Settles O1: the reset values and what INIT keeps, one by one. -/
theorem resetAndInitState : Obligations.ResetAndInitState := by
  refine ⟨by decide, rfl, rfl, rfl, rfl, rfl, rfl, rfl, rfl, rfl, rfl, rfl, rfl, rfl, by decide, fun s => ?_⟩
  exact ⟨rfl, rfl, rfl, rfl, rfl, rfl, rfl, rfl, rfl, rfl, rfl, rfl, rfl, s.init_cr0_getLsbD⟩

end Sys2Proof.Machine
end

section
/-! SUPPORT. An instruction that is ready passes its checks, and an operand that can be read gives the bytes at its place
(20_memory.md rules R81 to R89, 60_exceptions.md rules R663 to R670); loading MXCSR (10_state.md rule R41). -/

namespace Sys2Proof.Machine

open Sys2Proof.Spec

section
variable {s : State}

/-! ## Ready instructions -/

theorem checkM_of_ready {x : Ext} (h : ReadyM x s) : checkM x s = .ok () := checkM_eq_ok.mpr h

theorem checkX_of_ready {x : Ext} (h : ReadyX x s) : checkX x s = .ok () := checkX_eq_ok.mpr h

theorem checkXM_of_ready {x : Ext} (h : ReadyXM x s) : checkXM x s = .ok () := checkXM_eq_ok.mpr h

theorem checkFX_of_ready (h : ReadyFX .sse s) : checkFX s = .ok () := checkFX_eq_ok.mpr h

theorem checkH_of_ready {x : Ext} (h : ReadyH x s) : checkH x s = .ok () := checkH_eq_ok.mpr h

/-! ## Operands that can be reached -/

theorem acEnabled_iff (s : State) : s.acEnabled = true ↔ AcOn s := by
  simp [State.acEnabled, State.am, AcOn, and_assoc]

theorem forbids_eq_false {g : Segment} {w : Bool} (h : rightOf g w = true) : g.forbids w = false := by
  cases w <;> simpa [Segment.forbids, rightOf] using h

/-- No check stops an access to bytes that can be reached. -/
theorem checkBytes_of_reach {w : Bool} {al : Align} {seg : Seg} {ea : Dword} {offs : List Nat}
    (h : Reach s w al seg ea offs) : s.checkBytes w al seg ea offs = .ok (s.linear seg ea) := by
  refine checkBytes_eq_ok.mpr ⟨rfl, h.aligned, fun o ho => ?_, fun o ho => ?_,
    fun hal hac => h.checked hal ((acEnabled_iff s).mp hac), fun o ho => ?_⟩
  · obtain ⟨hright, hlimit⟩ := h.right o ho
    exact ⟨forbids_eq_false hright, decide_eq_false (Nat.not_lt.mpr hlimit)⟩
  · rw [Nat.mod_eq_of_lt (h.space o ho)]
    exact (pageOpen_iff s _ _).mp (h.pages o ho)
  · exact ⟨h.space o ho, (writeBack_iff s _).mp (h.memory o ho)⟩

theorem checkAccess_of_canRead {al : Align} {m : MemOp} {n : Nat} (h : CanRead s al m n) :
    s.checkAccess false al m n = .ok (place s m) := checkBytes_of_reach h

theorem checkAccess_of_canWrite {al : Align} {m : MemOp} {n : Nat} (h : CanWrite s al m n) :
    s.checkAccess true al m n = .ok (place s m) := checkBytes_of_reach h

/-- The bytes that spell a value are read as that value (R81). -/
theorem ofBytes_of_spells {a w : Nat} {v : BitVec w} (hw : w % 8 = 0) (h : Spells s a v) :
    ofBytes w (s.bytes a (w / 8)) = v := by
  refine ofBytes_eq v _ (by rw [State.bytes_length]; omega) fun i hi => ?_
  rw [State.bytes_length] at hi
  simpa [State.bytes] using (h i hi).symm

theorem load_of_canRead {al : Align} {m : MemOp} {w : Nat} {v : BitVec w} (hw : w % 8 = 0)
    (h : CanRead s al m (w / 8)) (hv : Spells s (place s m) v) : s.load al m w = .ok v :=
  load_eq_ok.mpr ⟨_, checkAccess_of_canRead h, (ofBytes_of_spells hw hv).symm⟩

/-! ## Loading MXCSR (R41, R424, R427) -/

theorem mxcsrReserved_iff (s : State) (v : Dword) :
    s.mxcsrReserved v = true ↔ v &&& ~~~(if s.plat.daz then 0xFFFF#32 else 0xFFBF#32) ≠ 0#32 := by
  simp [State.mxcsrReserved, State.mxcsrMask]

theorem execLdmxcsr_eq {m : MemOp} {v : Dword} (hc : checkX .sse s = .ok ()) (hv : s.load .checked m 32 = .ok v) :
    execLdmxcsr m s =
      if s.mxcsrReserved v then .next (takeException s (.zero .gp)) else .next { s with mxcsr := v } := by
  simp only [execLdmxcsr, hc, hv, res_ok_bind]
  split <;> rfl

/-- FXRSTOR of an image with reserved MXCSR bits. -/
theorem execFxrstor_reserved {m : MemOp} {a : Nat} (hc : checkFX s = .ok ())
    (ha : s.checkAccess false .must16 m 512 = .ok a) (hos : s.osfxsr = true)
    (hv : s.mxcsrReserved (imageField s a 24 32) = true) :
    execFxrstor m s = .next (takeException s (.zero .gp)) := by
  simp only [execFxrstor, hc, ha, hos, hv, res_ok_bind, Bool.and_self, if_true, settle_raise]

end

/-- Settles O41: both instructions read the value, and test it against the mask. -/
theorem mxcsrLoadChecksReservedBits : Obligations.MxcsrLoadChecksReservedBits := by
  intro m s v reserved
  refine ⟨fun hready hread hv => ?_, fun hready hos hread hv hres => ?_⟩
  · have hexec := execLdmxcsr_eq (checkX_of_ready hready) (load_of_canRead (by decide) hread hv)
    refine ⟨fun hres => hexec.trans (if_neg fun h => (mxcsrReserved_iff s v).mp h hres), fun hres => ?_⟩
    exact (hexec.trans (if_pos ((mxcsrReserved_iff s v).mpr hres))).trans (congrArg _ (takeException_eq_took ..))
  · have hfield : imageField s (place s m) 24 32 = v := ofBytes_of_spells (by decide) hv
    have hbits := (mxcsrReserved_iff s v).mpr hres
    rw [← hfield] at hbits
    exact (execFxrstor_reserved (checkFX_of_ready hready) (checkAccess_of_canRead hread) hos hbits).trans
      (congrArg _ (takeException_eq_took ..))

end Sys2Proof.Machine
end

section
/-! SUPPORT. Bytes that are not decoded: an encoding behind the LOCK byte, and one whose feature the processor lacks
(30_encoding.md rules R138, R139). -/

namespace Sys2Proof

open Sys2Proof.Machine Sys2Proof.Spec

/-- LOCK in front of legacy prefixes changes neither their class nor whether one is repeated (R121, R122). -/
theorem classify_lock {ps : List Byte} (h : ps.contains 0xF0#8 = false) : classify (0xF0#8 :: ps) = classify ps := by
  have hclass : prefixClass (0xF0#8 :: ps) = prefixClass ps := by
    simp only [prefixClass, List.contains_cons]
    rfl
  have hrepeat : prefixesRepeat (0xF0#8 :: ps) = prefixesRepeat ps := by
    rw [prefixesRepeat, h]
    rfl
  rw [classify, hclass, hrepeat]
  rfl

theorem legacy_lock {ps : List Byte} (h : ∀ b ∈ ps, isPrefixByte b = true) :
    ∀ b ∈ 0xF0#8 :: ps, isPrefixByte b = true :=
  List.forall_mem_cons.mpr ⟨rfl, h⟩

/-- LOCK before the encoding of a row is undefined (R138 (a)). -/
theorem Form.Codes.decode_lock {x : Ext} {p : Pfx} {op : Byte} {ext : Ext} {i : Instr} {f : Form} {bs : List Byte}
    (rest : List Byte) (h : Form.Codes p op bs f i) (hr : ⟨p, op, ext, f⟩ ∈ opcodeRows) :
    Sys2Proof.decode x (0xF0#8 :: bs ++ rest) = .undefined := by
  obtain ⟨ps, modrm, tl, rfl, hp, hm, _⟩ := h.decodeOperands
  have hclass : classify (0xF0#8 :: ps) = .ok p := (classify_lock hp.unlocked).trans hp.classed
  have hd := decode_escape (x := x) op (modrm :: (tl ++ rest)) (legacy_lock hp.legacy) hclass
  rw [decodeOpcode_row (tl ++ rest) hr hm, if_pos (by simp)] at hd
  simpa using hd

/-- The encoding of a row whose feature the processor lacks is undefined, or refused as a later extension's (R139). -/
theorem Form.Codes.decode_later {x : Ext} {p : Pfx} {op : Byte} {ext : Ext} {i : Instr} {f : Form} {bs : List Byte}
    (rest : List Byte) (h : Form.Codes p op bs f i) (hr : ⟨p, op, ext, f⟩ ∈ opcodeRows) (hx : x.has ext = false) :
    Sys2Proof.decode x (bs ++ rest) = .undefined ∨
      Sys2Proof.decode x (bs ++ rest) = .refused .laterExtensionForm := by
  obtain ⟨ps, modrm, tl, rfl, hp, hm, _⟩ := h.decodeOperands
  have hd := decode_escape (x := x) op (modrm :: (tl ++ rest)) hp.legacy hp.classed
  rw [decodeOpcode_row (tl ++ rest) hr hm, hp.unlocked, if_neg Bool.false_ne_true, hx, Bool.not_false, if_pos rfl] at hd
  have hbytes : ps ++ 0x0F#8 :: op :: modrm :: tl ++ rest = ps ++ 0x0F#8 :: op :: modrm :: (tl ++ rest) := by simp
  rw [hbytes, hd]
  split
  · exact .inl rfl
  · exact .inr rfl

/-- Every processor has MMX (00_scope.md rule R9). -/
theorem Ext.has_mmx (x : Ext) : x.has .mmx = true := by cases x <;> rfl

/-- Settles O6: EMMS and PAUSE by themselves, every other instruction by its row of the table. -/
theorem lockedOrLaterIsNotDecoded : Obligations.LockedOrLaterIsNotDecoded := by
  intro x i rest hwf
  rcases hasRow_or_emms_or_pause i hwf with ⟨p, op, f, hr, hc⟩ | rfl | rfl
  · exact ⟨fun _ => hc.decode_lock rest hr, hc.decode_later rest hr⟩
  · exact ⟨fun _ => rfl, fun hx => nomatch (Ext.has_mmx x).symm.trans hx⟩
  · exact ⟨fun _ => rfl, fun hx => nomatch (Ext.has_mmx x).symm.trans hx⟩

end Sys2Proof
end

section
/-! SUPPORT. The store buffer: which entry may drain, that draining is invisible to the processor itself, the fences,
and that stores wait in the buffer (20_memory.md rules R96 to R100). -/

namespace Sys2Proof.Machine

open Sys2Proof.Spec

/-! ## The bytes an entry covers -/

theorem SbEntry.byteAt_store (nt : Bool) (a x : Nat) (bs : List Byte) :
    (SbEntry.store nt a bs).byteAt x = if a ≤ x then bs[x - a]? else none := rfl

theorem SbEntry.byteAt_store_isSome {nt : Bool} {a x : Nat} {bs : List Byte} :
    ((SbEntry.store nt a bs).byteAt x).isSome = true ↔ a ≤ x ∧ x < a + bs.length := by
  rw [SbEntry.byteAt_store]
  split
  · next h => simp only [isSome_getElem?]; omega
  · next h => simp [h]

theorem SbEntry.overlaps_store {nt nt' : Bool} {a b : Nat} {as bs : List Byte} :
    (SbEntry.store nt a as).overlaps (.store nt' b bs) = true ↔ a < b + bs.length ∧ b < a + as.length := by
  simp [SbEntry.overlaps]

/-- Entries that share a byte overlap. -/
theorem SbEntry.overlaps_of_shared {e f : SbEntry} {x : Nat} (hf : (f.byteAt x).isSome = true)
    (he : (e.byteAt x).isSome = true) : f.overlaps e = true := by
  cases f with
  | sf => cases hf
  | store nt a as =>
    cases e with
    | sf => cases he
    | store nt' b bs =>
      rw [SbEntry.byteAt_store_isSome] at hf he
      exact SbEntry.overlaps_store.mpr ⟨by omega, by omega⟩

/-- Stores of at least one byte each that overlap share a byte, the higher of their first ones. -/
theorem SbEntry.shared_of_overlaps {nt nt' : Bool} {a b : Nat} {as bs : List Byte} (has : as ≠ []) (hbs : bs ≠ [])
    (h : (SbEntry.store nt a as).overlaps (.store nt' b bs) = true) :
    ∃ x, ((SbEntry.store nt a as).byteAt x).isSome = true ∧ ((SbEntry.store nt' b bs).byteAt x).isSome = true := by
  rw [SbEntry.overlaps_store] at h
  have := List.length_pos_iff.mpr has
  have := List.length_pos_iff.mpr hbs
  exact ⟨max a b, SbEntry.byteAt_store_isSome.mpr (by omega), SbEntry.byteAt_store_isSome.mpr (by omega)⟩

theorem SbEntry.isFence_eq_true {e : SbEntry} : e.isFence = true ↔ e = .sf := by cases e <;> simp [SbEntry.isFence]

theorem SbEntry.isOrdinary_eq_true {e : SbEntry} : e.isOrdinary = true ↔ ∃ a b, e = .store false a b := by
  cases e <;> simp [SbEntry.isOrdinary]

/-! ## Which entry may drain (R96 (c)) -/

theorem SbEntry.mayPass_iff {e : SbEntry} {earlier : List SbEntry} :
    e.mayPass earlier = true ↔
      e ≠ .sf ∧ ∀ f ∈ earlier,
        f ≠ .sf ∧ f.overlaps e = false ∧ ¬((∃ a b, e = .store false a b) ∧ ∃ a b, f = .store false a b) := by
  simp only [SbEntry.mayPass, Bool.and_eq_true, Bool.not_eq_true', List.all_eq_true, ← Bool.not_eq_true,
    SbEntry.isFence_eq_true, SbEntry.isOrdinary_eq_true, ne_eq, and_assoc]

/-- An entry that may drain shares no byte with an earlier one. -/
theorem SbEntry.mayPass_byteAt {e f : SbEntry} {earlier : List SbEntry} {x : Nat} (h : e.mayPass earlier = true)
    (hf : f ∈ earlier) (he : (e.byteAt x).isSome = true) : f.byteAt x = none := by
  obtain ⟨_, hover, _⟩ := (SbEntry.mayPass_iff.mp h).2 f hf
  by_contra hne
  have := SbEntry.overlaps_of_shared (Option.isSome_iff_ne_none.mpr hne) he
  exact Bool.false_ne_true (hover.symm.trans this)

/-! ## Draining one entry -/

section
variable {s : State} {k : Nat} {e : SbEntry}

theorem State.drainAt_held (hk : s.sb[k]? = some e) (h : e.mayPass (s.sb.take k) = false) : s.drainAt k = s := by
  rw [State.drainAt, hk]
  exact if_neg (Bool.not_eq_true _ ▸ h)

theorem State.drainAt_passes (hk : s.sb[k]? = some e) (h : e.mayPass (s.sb.take k) = true) :
    s.drainAt k = { s with mem := e.apply s.mem, sb := dropFences (s.sb.eraseIdx k) } := by
  rw [State.drainAt, hk]
  exact if_pos h

theorem State.drainAt_none (hk : s.sb[k]? = none) : s.drainAt k = s := by rw [State.drainAt, hk]

end

theorem dropFences_eq (sb : List SbEntry) : dropFences sb = sb.dropWhile (· = .sf) :=
  congrArg (List.dropWhile · sb) (funext fun e => by cases e <;> rfl)

/-- Settles O23: what holds an entry back is what `mayPass` tests, where no store is empty. -/
theorem drainRule : Obligations.DrainRule := by
  intro s k e hk held
  refine ⟨fun h => State.drainAt_held hk ?_, fun nt a bs he hbs hall hheld => ?_⟩
  · rw [← Bool.not_eq_true, SbEntry.mayPass_iff]
    rintro ⟨hsf, hpass⟩
    rcases h with ⟨f, hf, hfence | ⟨x, hfx, hex⟩ | ⟨hford, heord⟩⟩ | rfl
    · exact (hpass f hf).1 hfence
    · exact Bool.false_ne_true ((hpass f hf).2.1.symm.trans (SbEntry.overlaps_of_shared hfx hex))
    · exact (hpass f hf).2.2 ⟨heord, hford⟩
    · exact hsf rfl
  · subst he
    rw [← dropFences_eq]
    refine State.drainAt_passes hk (SbEntry.mayPass_iff.mpr ⟨nofun, fun f hf => ⟨fun h => ?_, ?_, fun h => ?_⟩⟩)
    · exact hheld ⟨f, hf, .inl h⟩
    · rw [← Bool.not_eq_true]
      intro hover
      cases f with
      | sf => cases hover
      | store nt' b bs' =>
        have hbs' := hall _ (List.mem_of_mem_take hf) _ _ _ rfl
        exact hheld ⟨_, hf, .inr (.inl (SbEntry.shared_of_overlaps hbs' hbs hover))⟩
    · exact hheld ⟨f, hf, .inr (.inr ⟨h.2, h.1⟩)⟩

/-! ## What the processor reads (R96 (b)) -/

theorem SbEntry.read_apply {m : List Host.Cell} (h : Memory.wf m = true) (e : SbEntry) (x : Nat) :
    Memory.read (e.apply m) x = (e.byteAt x).getD (Memory.read m x) := by
  cases e with
  | sf => rfl
  | store nt a bs =>
    rw [SbEntry.apply, Memory.read_writeBytes a x bs h, SbEntry.byteAt_store]
    split
    · cases bs[x - a]? <;> rfl
    · rfl

theorem sbLookup_append_getD (xs ys : List SbEntry) (x : Nat) (d : Byte) :
    (sbLookup (xs ++ ys) x).getD d = (sbLookup ys x).getD ((sbLookup xs x).getD d) := by
  rw [sbLookup_append]
  cases sbLookup ys x <;> rfl

theorem sbLookup_cons_getD (e : SbEntry) (es : List SbEntry) (x : Nat) (d : Byte) :
    (sbLookup (e :: es) x).getD d = (sbLookup es x).getD ((e.byteAt x).getD d) := by
  rw [sbLookup]
  cases sbLookup es x <;> rfl

/-- Where no entry covers a place, none is found. -/
theorem sbLookup_eq_none {sb : List SbEntry} {x : Nat} (h : ∀ e ∈ sb, e.byteAt x = none) : sbLookup sb x = none := by
  induction sb with
  | nil => rfl
  | cons e es ih =>
    obtain ⟨he, hes⟩ := List.forall_mem_cons.mp h
    rw [sbLookup, ih hes]
    exact he

theorem State.physByte_eq (s : State) (p : Nat) : s.physByte p = (sbLookup s.sb p).getD (Memory.read s.mem p) := by
  unfold State.physByte
  cases sbLookup s.sb p <;> rfl

theorem State.byte_eq (s : State) (a : Nat) :
    s.byte a = (sbLookup s.sb (physOf s a)).getD (Memory.read s.mem (physOf s a)) := by
  rw [physOf_eq]
  exact s.physByte_eq _

/-- States that show the processor the same byte at every physical address, through the same pages. -/
theorem sameBytes_of_physByte {s t : State} (hplat : t.plat = s.plat) (h : ∀ p, t.physByte p = s.physByte p) :
    SameBytes s t := fun a => by rw [State.byte, State.phys_congr hplat, h, State.byte]

/-! ## Draining is invisible -/

/-- The entry that drains covers no byte that an earlier one covers, so its bytes may go to memory before those. -/
theorem State.physByte_drainAt {s : State} (hwf : Memory.wf s.mem = true) (k p : Nat) :
    (s.drainAt k).physByte p = s.physByte p := by
  cases hk : s.sb[k]? with
  | none => rw [State.drainAt_none hk]
  | some e =>
    cases hpass : e.mayPass (s.sb.take k) with
    | false => rw [State.drainAt_held hk hpass]
    | true =>
      have hsplit : s.sb = s.sb.take k ++ e :: s.sb.drop (k + 1) := by
        obtain ⟨hlt, he⟩ := List.getElem?_eq_some_iff.mp hk
        rw [← he, List.getElem_cons_drop, List.take_append_drop]
      have hearlier : (e.byteAt p).isSome = true → sbLookup (s.sb.take k) p = none := fun he =>
        sbLookup_eq_none fun f hf => SbEntry.mayPass_byteAt hpass hf he
      rw [State.drainAt_passes hk hpass, State.physByte_eq, State.physByte_eq]
      conv_rhs => rw [hsplit, sbLookup_append_getD, sbLookup_cons_getD]
      simp only [sbLookup_dropFences, List.eraseIdx_eq_take_drop_succ, sbLookup_append_getD, SbEntry.read_apply hwf]
      cases he : e.byteAt p with
      | none => rfl
      | some b => rw [hearlier (by rw [he]; rfl)]; rfl

theorem State.wf_drainAt {s : State} (h : Memory.wf s.mem = true) (k : Nat) :
    Memory.wf (s.drainAt k).mem = true := by
  unfold State.drainAt
  split
  · exact h
  · split
    · exact Memory.wf_apply _ h
    · exact h

theorem State.drainAt_eq (s : State) (k : Nat) :
    s.drainAt k = { s with mem := (s.drainAt k).mem, sb := (s.drainAt k).sb } := by
  unfold State.drainAt
  split
  · rfl
  · split <;> rfl

theorem State.foldl_drainAt_eq (s : State) (l : List Nat) :
    l.foldl State.drainAt s = { s with mem := (l.foldl State.drainAt s).mem, sb := (l.foldl State.drainAt s).sb } := by
  induction l generalizing s with
  | nil => rfl
  | cons k ks ih =>
    rw [List.foldl_cons, ih (s.drainAt k), s.drainAt_eq k]

theorem State.physByte_foldl_drainAt {s : State} (h : Memory.wf s.mem = true) (l : List Nat) (p : Nat) :
    (l.foldl State.drainAt s).physByte p = s.physByte p := by
  induction l generalizing s with
  | nil => rfl
  | cons k ks ih => exact (ih (State.wf_drainAt h k)).trans (State.physByte_drainAt h k p)

/-- Settles O22: entry by entry. -/
theorem drainIsInvisible : Obligations.DrainIsInvisible := by
  intro s hwf
  unfold State.drain
  split
  · exact ⟨fun _ => rfl, rfl⟩
  · refine ⟨sameBytes_of_physByte (State.foldl_drainAt_plat s _) (State.physByte_foldl_drainAt hwf _), ?_⟩
    rw [State.foldl_drainAt_eq]

/-! ## The fences (R98, R100) -/

theorem State.physByte_fenceStores (s : State) (p : Nat) : s.fenceStores.physByte p = s.physByte p := by
  simp only [State.physByte_eq, State.fenceStores_sb, State.fenceStores_mem, sbLookup_dropFences, sbLookup_append_getD]
  rfl

/-- A marker behind pending stores that no marker heads stays. -/
theorem dropFences_append_sf {sb : List SbEntry} (hfirst : fenceNotFirst sb = true) (hne : sb ≠ []) :
    dropFences (sb ++ [.sf]) = sb ++ [.sf] := by
  cases sb with
  | nil => exact absurd rfl hne
  | cons e es =>
    cases e with
    | store => rfl
    | sf => cases hfirst

/-- A drained buffer stands in memory as the processor read it. -/
theorem read_foldl_apply {m : List Host.Cell} (h : Memory.wf m = true) (sb : List SbEntry) (p : Nat) :
    Memory.read (sb.foldl SbEntry.apply m) p = (sbLookup sb p).getD (Memory.read m p) := by
  induction sb generalizing m with
  | nil => rfl
  | cons e es ih => rw [List.foldl_cons, ih (Memory.wf_apply e h), SbEntry.read_apply h, sbLookup_cons_getD]

theorem State.read_drainAll {s : State} (h : Memory.wf s.mem = true) (p : Nat) :
    Memory.read s.drainAll.mem p = s.physByte p := by
  rw [State.drainAll_mem, read_foldl_apply h, State.physByte_eq]

theorem exec_sfence {s : State} (h : ReadyH .sse s) : exec .sfence s = .next s.fenceStores :=
  show execSfence s = _ by rw [execSfence, checkH_of_ready h]; rfl

theorem exec_mfence {s : State} (h : ReadyH .sse2 s) : exec .mfence s = .next s.drainAll :=
  show execMfence s = _ by rw [execMfence, checkH_of_ready h]; rfl

/-- Settles O24: a marker covers no byte, and a drained buffer stands in memory. -/
theorem storeFences : Obligations.StoreFences := by
  intro s
  refine ⟨fun hready => ⟨s.fenceStores, exec_sfence hready, rfl, ?_, fun hsb => ?_, dropFences_append_sf⟩,
    fun hready hwf => ⟨s.drainAll, exec_mfence hready, rfl, ?_, fun a => ?_⟩⟩
  · exact sameBytes_of_physByte rfl s.physByte_fenceStores
  · rw [State.fenceStores_sb, hsb]
    rfl
  · exact sameBytes_of_physByte rfl (State.read_drainAll hwf)
  · rw [physOf_eq]
    exact State.read_drainAll hwf (s.phys a)

/-! ## Stores wait in the buffer (R96 (a)) -/

/-- Nothing was written to shared memory, and stores were appended to the buffer, at most. -/
def OnlyAppends (s t : State) : Prop := t.mem = s.mem ∧ ∃ new, t.sb = s.sb ++ new ∧ .sf ∉ new

theorem OnlyAppends.of_same {s t : State} (hmem : t.mem = s.mem) (hsb : t.sb = s.sb) : OnlyAppends s t :=
  ⟨hmem, [], by rw [hsb, List.append_nil], List.not_mem_nil⟩

section
variable {i : Instr} {s t : State}

theorem Wrote.onlyAppends (h : Wrote i s t) (hsf : i ≠ .sfence) (hmf : i ≠ .mfence) : OnlyAppends s t := by
  cases h with
  | @stores new hnew => exact ⟨rfl, new, rfl, fun hmem => nomatch (hnew _ hmem).2⟩
  | fenced hi => exact absurd hi hsf
  | drained hi => exact absurd hi hmf
  | _ => exact .of_same rfl rfl

theorem Completes.onlyAppends (h : Completes i s t) (hsf : i ≠ .sfence) (hmf : i ≠ .mfence) : OnlyAppends s t := by
  cases h with
  | touched _ _ h => exact h.onlyAppends hsf hmf
  | untouched _ h => exact h.onlyAppends hsf hmf
  | _ => exact .of_same rfl rfl

theorem Wrote.mem_kept (h : Wrote i s t) (hmf : i ≠ .mfence) : t.mem = s.mem := by
  cases h with
  | drained hi => exact absurd hi hmf
  | _ => rfl

theorem Completes.mem_kept (h : Completes i s t) (hmf : i ≠ .mfence) : t.mem = s.mem :=
  h.kept (f := State.mem) (fun _ _ _ _ _ => rfl) fun _ hw => hw.mem_kept hmf

end

/-- Settles O21: by what an instruction completes with; what is read is the buffer's lookup. -/
theorem storesWaitInBuffer : Obligations.StoresWaitInBuffer := by
  refine ⟨fun i s t h => ?_, fun s a => ⟨fun older e newer b hsb he hnewer => ?_, fun hnone => ?_⟩⟩
  · split
    · trivial
    · rcases exec_next h with hc | ⟨x, _, rfl⟩
      · exact hc.mem_kept nofun
      · rfl
    · next hmf hsf =>
      rcases exec_next h with hc | ⟨x, _, rfl⟩
      · exact hc.onlyAppends hsf hmf
      · exact OnlyAppends.of_same rfl rfl
  · rw [State.byte_eq, hsb, sbLookup_append_getD, sbLookup_cons_getD, sbLookup_eq_none hnewer, he]
    rfl
  · rw [State.byte_eq, sbLookup_eq_none hnone]
    rfl

end Sys2Proof.Machine
end

section
/-! SUPPORT. Stores of a register to memory and the masked stores: what enters the store buffer, which bytes change, and
that nothing else does (20_memory.md rules R81, R84, R91, R107). -/

namespace Sys2Proof.Machine

open Sys2Proof.Spec

/-! ## The groups of a store (R91) -/

section
variable {s : State} {nt : Bool} {a : Nat} {bs : List Byte}

theorem State.storeGroups_whole (hn : ((bs.length = 1 ∨ bs.length = 2) ∨ bs.length = 4) ∨ bs.length = 8)
    (ha : a % bs.length = 0) : s.storeGroups nt a bs = [.store nt (s.phys a) bs] :=
  if_pos (by simpa using ⟨hn, ha⟩)

theorem State.storeGroups_halves (hn : bs.length = 16) (ha : a % 16 = 0) :
    s.storeGroups nt a bs = [.store nt (s.phys a) (bs.take 8), .store nt (s.phys (a + 8)) (bs.drop 8)] := by
  rw [State.storeGroups, if_neg (by simp [hn]), if_pos (by simp [hn, ha])]

/-- Every group is a store of some of the bytes, at their own places. -/
theorem State.mem_storeGroups {e : SbEntry} (he : e ∈ s.storeGroups nt a bs) :
    ∃ p part, e = .store nt p part ∧ ∀ j, j < part.length → ∃ i, i < bs.length ∧ p + j = s.phys (a + i) := by
  unfold State.storeGroups at he
  simp only at he
  split at he
  · next h =>
    simp only [Bool.and_eq_true, Bool.or_eq_true, beq_iff_eq] at h
    obtain rfl := List.mem_singleton.mp he
    exact ⟨_, _, rfl, fun j hj => ⟨j, hj, (s.phys_add (group_in_page h.1 h.2 hj)).symm⟩⟩
  · split at he
    · next h =>
      simp only [Bool.and_eq_true, beq_iff_eq] at h
      rcases List.mem_pair.mp he with rfl | rfl
      · refine ⟨_, _, rfl, fun j hj => ?_⟩
        rw [List.length_take] at hj
        exact ⟨j, by omega, (s.phys_add (by omega)).symm⟩
      · refine ⟨_, _, rfl, fun j hj => ?_⟩
        rw [List.length_drop] at hj
        exact ⟨8 + j, by omega, by rw [← Nat.add_assoc]; exact (s.phys_add (by omega)).symm⟩
    · obtain ⟨i, hi, rfl⟩ := List.mem_mapIdx.mp he
      refine ⟨_, _, rfl, fun j hj => ⟨i, hi, ?_⟩⟩
      have hj0 : j = 0 := Nat.lt_one_iff.mp hj
      rw [hj0, Nat.add_zero]

end

/-! ## A store of a value -/

/-- What a store of 4, 8 or 16 bytes leaves. -/
theorem stored_storeBytes {w : Nat} (s : State) (nt : Bool) (a : Nat) (v : BitVec w)
    (hw : w = 32 ∨ w = 64 ∨ w = 128) : Stored s (s.storeBytes nt a (toBytes (w / 8) v)) nt a v where
  rest := rfl
  bytes i hi := by
    rw [State.byte_storeBytes_self s nt (by rw [toBytes_length]; omega) (by rwa [toBytes_length])]
    exact Option.some.inj ((List.getElem?_eq_getElem _).symm.trans (toBytes_getElem? (w / 8) i v hi))
  others x hx := State.byte_storeBytes_other s nt fun i hi => by
    rw [toBytes_length] at hi
    simpa only [physOf_eq] using hx i hi
  queued := by
    refine ⟨_, rfl, fun e he => ?_⟩
    simpa only [physOf_eq, toBytes_length] using State.mem_storeGroups he
  whole hle ha := by
    refine ⟨toBytes (w / 8) v, toBytes_length .., ?_⟩
    rw [physOf_eq, State.storeBytes_sb,
      State.storeGroups_whole (by rw [toBytes_length]; omega) (by rwa [toBytes_length])]
  halves h128 ha := by
    refine ⟨(toBytes (w / 8) v).take 8, (toBytes (w / 8) v).drop 8, ?_, ?_, ?_⟩
    · rw [List.length_take, toBytes_length]; omega
    · rw [List.length_drop, toBytes_length]; omega
    · rw [physOf_eq, physOf_eq, State.storeBytes_sb, State.storeGroups_halves (by rw [toBytes_length]; omega) ha]

theorem store_of_canWrite {s : State} {al : Align} {m : MemOp} {w : Nat} (nt : Bool) (v : BitVec w)
    (h : CanWrite s al m (w / 8)) : s.store nt al m v = .ok (s.storeBytes nt (place s m) (toBytes (w / 8) v)) :=
  store_eq_ok.mpr ⟨_, checkAccess_of_canWrite h, rfl⟩

theorem valid_eq (s : State) : valid s = s.touchX87 := rfl

theorem State.storeBytes_touchX87 (s : State) (nt : Bool) (a : Nat) (bs : List Byte) :
    s.touchX87.storeBytes nt a bs = (s.storeBytes nt a bs).touchX87 := rfl

/-! ## After the availability checks -/

section
variable {s t : State} {x : Ext} {f : Res State}

theorem settle_afterM (h : ReadyM x s) (hf : f = .ok t) : settle s (checkM x s >>= fun _ => f) = .next t := by
  rw [checkM_of_ready h, hf]; rfl

theorem settle_afterM_touch (h : ReadyM x s) (hf : f = .ok t) :
    settle s (checkM x s >>= fun _ => f >>= fun t => .ok t.touchX87) = .next t.touchX87 := by
  rw [checkM_of_ready h, hf]; rfl

theorem settle_afterX (h : ReadyX x s) (hf : f = .ok t) : settle s (checkX x s >>= fun _ => f) = .next t := by
  rw [checkX_of_ready h, hf]; rfl

theorem settle_afterH (h : ReadyH x s) (hf : f = .ok t) : settle s (checkH x s >>= fun _ => f) = .next t := by
  rw [checkH_of_ready h, hf]; rfl

end

/-! ## Every store of a register -/

/-- The state after a row's store: with the x87 side effects, where the row names an MMX register. -/
def storeRowLeaves (r : StoreRow) (t : State) : State := if r.touches then t.touchX87 else t

/-- A row's instruction, where it is ready, does the row's store. -/
structure DoesStore (r : StoreRow) : Prop where
  width : r.width = 32 ∨ r.width = 64 ∨ r.width = 128
  exec  : ∀ reg m s t, Ready (r.make reg m) s → s.store r.nonTemporal r.align m (r.value s reg) = .ok t →
    exec (r.make reg m) s = .next (storeRowLeaves r t)

/-- By class: M, which adds the x87 side effects, H, and X for all the others. -/
theorem stores_doStore : ∀ r ∈ stores, DoesStore r := by
  simp only [stores, List.forall_mem_cons]
  refine ⟨?movdMm, ?movqMm, ?movntq, ?_, ?_, ?_, ?_, ?_, ?_, ?_, ?_, ?_, ?_, ?_, ?_, ?_, ?_, ?_, ?_, ?_, ?_, ?movnti,
    nofun⟩
  case movdMm =>
    refine ⟨by decide, fun reg m s t h ht => settle_afterM_touch h ?_⟩
    rw [← ht, BitVec.setWidth_eq_extractLsb' (by decide)]
  case movqMm | movntq => exact ⟨by decide, fun reg m s t h ht => settle_afterM_touch h ht⟩
  case movnti => exact ⟨by decide, fun reg m s t h ht => settle_afterH h ht⟩
  all_goals exact ⟨by decide, fun reg m s t h ht => settle_afterX h ht⟩

/-- Settles O39: every row's instruction does the row's store, and what a store leaves is said once. -/
theorem registerStores : Obligations.RegisterStores := by
  intro r hr reg m s hready hwrite
  obtain ⟨hwidth, hexec⟩ := stores_doStore r hr
  refine ⟨_, hexec reg m s _ hready (store_of_canWrite _ _ hwrite), ?_⟩
  unfold storeRowLeaves
  split
  · rw [← State.storeBytes_touchX87]
    exact stored_storeBytes (valid s) _ _ _ hwidth
  · exact stored_storeBytes s _ _ _ hwidth

/-! ## The masked stores -/

section
variable (s : State) (nt : Bool) (a : Nat) (l : List (Nat × Byte))

/-- Bytes stored one at a time are an entry each, in their order. -/
theorem State.storeEach_sb_eq :
    (s.storeEach nt a l).sb = s.sb ++ l.map fun o => .store nt (s.phys (a + o.1)) [o.2] := by
  unfold State.storeEach
  induction l generalizing s with
  | nil => exact (List.append_nil _).symm
  | cons o os ih =>
    rw [List.foldl_cons, ih, State.storeBytes_sb, State.storeGroups_single]
    simp

theorem State.storeEach_rest :
    s.storeEach nt a l = { s with sb := (s.storeEach nt a l).sb, stored := (s.storeEach nt a l).stored } := by
  obtain ⟨new, heq, _⟩ := s.storeEach_eq nt a l
  have hsb : (s.storeEach nt a l).sb = s.sb ++ new := by rw [heq]
  rw [hsb]
  exact heq

theorem State.storeEach_touchX87 : s.touchX87.storeEach nt a l = (s.storeEach nt a l).touchX87 := by
  unfold State.storeEach
  induction l generalizing s with
  | nil => rfl
  | cons o os ih => exact ih (s.storeBytes nt (a + o.1) [o.2])

end

section
variable {k : Nat}

/-- The top bit of a mask byte (R428). -/
theorem selectedOffsets_eq (mask : BitVec k) : selectedOffsets mask = selected mask := by
  refine List.filter_congr fun j _ => ?_
  rw [BitVec.msb_eq_getLsbD_last, lane, BitVec.getLsbD_extractLsb']
  rfl

theorem lt_of_mem_selected {mask : BitVec k} {j : Nat} (h : j ∈ selected mask) : j < k / 8 :=
  List.mem_range.mp (List.mem_filter.mp h).1

/-- The bytes that a mask selects, with their offsets. -/
def selectedBytes (data mask : BitVec k) : List (Nat × Byte) :=
  (selected mask).map fun j => (j, data.extractLsb' (8 * j) 8)

theorem selectedBytes_offsets (data mask : BitVec k) : (selectedBytes data mask).map Prod.fst = selected mask := by
  rw [selectedBytes, List.map_map]
  exact List.map_id _

theorem mem_selectedBytes {data mask : BitVec k} {o : Nat × Byte} :
    o ∈ selectedBytes data mask ↔ o.1 ∈ selected mask ∧ o.2 = data.extractLsb' (8 * o.1) 8 := by
  simp only [selectedBytes, List.mem_map]
  constructor
  · rintro ⟨j, hj, rfl⟩
    exact ⟨hj, rfl⟩
  · rintro ⟨hj, hb⟩
    exact ⟨o.1, hj, by rw [← hb]⟩

/-- A masked store checks and stores the selected bytes alone. -/
theorem maskedStore_eq (data mask : BitVec k) (seg : Seg) (s : State) :
    maskedStore data mask seg s =
      s.checkBytes true .free seg (s.readGpr 7) (selected mask) >>= fun a =>
        .ok (s.storeEach true a (selectedBytes data mask)) := by
  rw [maskedStore, selectedOffsets_eq]
  rfl

/-- What the store of the selected bytes leaves. -/
theorem maskStored_storeEach (s : State) (a : Nat) (data mask : BitVec k) (hk : k ≤ 128) :
    MaskStored s (s.storeEach true a (selectedBytes data mask)) a data mask where
  rest := s.storeEach_rest true a _
  written j hj := by
    refine State.byte_storeEach_self s true a (o := (j, _)) _ ?_ (fun o ho => ?_) (mem_selectedBytes.mpr ⟨hj, rfl⟩)
    · rw [selectedBytes_offsets]
      exact List.nodup_range.filter _
    · have := lt_of_mem_selected (mem_selectedBytes.mp ho).1
      omega
  others x hx := State.byte_storeEach_other s true a x _ fun o ho => by
    simpa only [physOf_eq] using hx o.1 (mem_selectedBytes.mp ho).1
  queued := by
    rw [State.storeEach_sb_eq, selectedBytes, List.map_map]
    simp only [physOf_eq]
    rfl

theorem maskedStore_of_reach {s : State} {seg : Seg} {data mask : BitVec k}
    (h : Reach s true .free seg (s.readGpr 7) (selected mask)) :
    maskedStore data mask seg s =
      .ok (s.storeEach true (s.linear seg (s.readGpr 7)) (selectedBytes data mask)) := by
  rw [maskedStore_eq, checkBytes_of_reach h]
  rfl

end

/-- Settles O40: each stores the selected bytes one by one, after MASKMOVQ's x87 side effects or before them. -/
theorem maskedStoresWriteSelectedBytes : Obligations.MaskedStoresWriteSelectedBytes := by
  intro reg rm seg s
  refine ⟨fun hready hreach => ⟨_, settle_afterM_touch hready (maskedStore_of_reach hreach), ?_⟩,
    fun hready hreach => ⟨_, settle_afterX hready (maskedStore_of_reach hreach), ?_⟩⟩
  · rw [← State.storeEach_touchX87]
    exact maskStored_storeEach (valid s) _ _ _ (by decide)
  · exact maskStored_storeEach s _ _ _ (by decide)

end Sys2Proof.Machine
end

section
/-! SUPPORT. The checks of a memory operand: which of them stops an access, in the order of R83 and R672, and that every
instruction with a memory operand begins with them (20_memory.md rules R83 to R94, R107, 60_exceptions.md rules R660,
R672). -/

namespace Sys2Proof.Machine

open Sys2Proof.Spec

/-! ## What stops an access -/

section
variable (s : State) (write : Bool) (al : Align) (seg : Seg) (ea : Dword) (offs : List Nat)

/-- The operand is not aligned as its instruction requires (R85, R86, R89). -/
def Misaligned : Prop := al = .must16 ∧ s.linear seg ea % 16 ≠ 0

/-- The segment forbids the access or ends before one of its bytes (R83 step 2). -/
def Outside : Prop :=
  ∃ o ∈ offs, rightOf (s.segment seg) write = false ∨ (s.segment seg).limit.toNat < min (ea.toNat + o) 0xFFFFFFFF

/-- Paging forbids the byte at an offset (R83 step 3, R94). -/
def Closed (o : Nat) : Prop := ¬PageOpen s (kindOf write) ((s.linear seg ea + o) % 2 ^ 32)

/-- The alignment check is on, and finds the operand unaligned (R87, R88). -/
def Unaligned : Prop := al = .checked ∧ AcOn s ∧ s.linear seg ea % offs.length ≠ 0

end

section
variable {s : State} {write : Bool} {al : Align} {seg : Seg} {ea : Dword} {offs : List Nat}

theorem forbids_eq (g : Segment) (w : Bool) : g.forbids w = !rightOf g w := by cases w <;> rfl

theorem outside_iff : Outside s write seg ea offs ↔
    (offs.any fun o => (s.segment seg).forbids write || (s.segment seg).outside (ea.toNat + o)) = true := by
  simp only [Outside, List.any_eq_true, Bool.or_eq_true, forbids_eq, Bool.not_eq_true', Segment.outside,
    decide_eq_true_eq]

theorem closed_iff {o : Nat} : Closed s write seg ea o ↔
    s.pageFault (kindOf write) ((s.linear seg ea + o) % 0x100000000) ≠ none := not_congr (pageOpen_iff ..)

theorem not_closed_iff {o : Nat} : ¬Closed s write seg ea o ↔
    s.pageFault (kindOf write) ((s.linear seg ea + o) % 0x100000000) = none := by rw [closed_iff, not_not]

theorem unaligned_iff : Unaligned s al seg ea offs ↔
    al = .checked ∧ s.acEnabled = true ∧ s.linear seg ea % offs.length ≠ 0 := by rw [acEnabled_iff]; rfl

/-- The first faulting byte of rising offsets is the lowest one (R672). -/
theorem firstPageFault_eq_some {k : AccessKind} {a o : Nat} {code : Dword} (hoffs : offs.Pairwise (· < ·))
    (ho : o ∈ offs) (hcode : s.pageFault k ((a + o) % 0x100000000) = some code)
    (hlow : ∀ o' ∈ offs, o' < o → s.pageFault k ((a + o') % 0x100000000) = none) :
    s.firstPageFault k a offs = some (code, (a + o) % 0x100000000) := by
  unfold State.firstPageFault
  induction offs with
  | nil => cases ho
  | cons x xs ih =>
    obtain ⟨hx, hxs⟩ := List.pairwise_cons.mp hoffs
    rw [List.findSome?_cons]
    rcases List.mem_cons.mp ho with rfl | hmem
    · rw [hcode]
      rfl
    · rw [hlow x (List.mem_cons_self ..) (hx o hmem)]
      exact ih hxs hmem fun o' ho' => hlow o' (List.mem_cons_of_mem _ ho')

theorem checkBytes_of_misaligned (h : Misaligned s al seg ea) : s.checkBytes write al seg ea offs = raise (.zero .gp) :=
  if_pos h

section
variable (h1 : ¬Misaligned s al seg ea)
include h1

theorem checkBytes_of_outside (h : Outside s write seg ea offs) :
    s.checkBytes write al seg ea offs = raise (.zero (if seg = .ss then .ss else .gp)) :=
  (if_neg h1).trans (if_pos (outside_iff.mp h))

variable (h2 : ¬Outside s write seg ea offs)
include h2

theorem checkBytes_of_closed {o : Nat} {p : PageRange} (hoffs : offs.Pairwise (· < ·)) (ho : o ∈ offs)
    (h : Closed s write seg ea o) (hlow : ∀ o' ∈ offs, o' < o → ¬Closed s write seg ea o')
    (hp : rangeOf s ((s.linear seg ea + o) % 2 ^ 32) = some p) :
    s.checkBytes write al seg ea offs =
      raise ⟨.pf, some (pageCode s (kindOf write) p), some (BitVec.ofNat 32 (s.linear seg ea + o)), 0#6⟩ := by
  have hfirst := firstPageFault_eq_some hoffs ho (pageFault_of_not_pageOpen hp h)
    fun o' ho' hlt => not_closed_iff.mp (hlow o' ho' hlt)
  have haddr : BitVec.ofNat 32 ((s.linear seg ea + o) % 0x100000000) = BitVec.ofNat 32 (s.linear seg ea + o) :=
    BitVec.eq_of_toNat_eq (Nat.mod_mod _ _)
  refine ((if_neg h1).trans (if_neg (mt outside_iff.mpr h2))).trans ?_
  rw [haddr.symm]
  simp only [kindOf] at hfirst ⊢
  simp only [hfirst]

variable (h3 : ∀ o ∈ offs, ¬Closed s write seg ea o)
include h3

/-- Where segment and paging let it, an access ends in the alignment check, in a refusal, or passes. -/
theorem checkBytes_of_open : s.checkBytes write al seg ea offs =
    if al = .checked ∧ s.acEnabled = true ∧ s.linear seg ea % offs.length ≠ 0 then raise (.zero .ac)
    else if offs.any (fun o => decide (0x100000000 ≤ s.linear seg ea + o)) then .error (.refuse .addressWrap)
    else if offs.any (fun o => decide (s.memType (s.linear seg ea + o) ≠ .writeBack)) then
      .error (.refuse .otherMemoryType)
    else .ok (s.linear seg ea) := by
  have hfirst := firstPageFault_eq_none.mpr fun o ho => not_closed_iff.mp (h3 o ho)
  refine ((if_neg h1).trans (if_neg (mt outside_iff.mpr h2))).trans ?_
  rw [kindOf] at hfirst
  simp only [hfirst]

theorem checkBytes_of_unaligned (h : Unaligned s al seg ea offs) :
    s.checkBytes write al seg ea offs = raise (.zero .ac) :=
  (checkBytes_of_open h1 h2 h3).trans (if_pos (unaligned_iff.mp h))

variable (h4 : ¬Unaligned s al seg ea offs)
include h4

theorem checkBytes_of_past_space (h : ∃ o ∈ offs, 0x100000000 ≤ s.linear seg ea + o) :
    s.checkBytes write al seg ea offs = .error (.refuse .addressWrap) :=
  (checkBytes_of_open h1 h2 h3).trans ((if_neg (mt unaligned_iff.mpr h4)).trans
    (if_pos (by simpa only [List.any_eq_true, decide_eq_true_eq] using h)))

theorem checkBytes_of_other_memory (h5 : ∀ o ∈ offs, s.linear seg ea + o < 0x100000000)
    (h : ∃ o ∈ offs, ¬WriteBack s (s.linear seg ea + o)) :
    s.checkBytes write al seg ea offs = .error (.refuse .otherMemoryType) := by
  simp only [writeBack_iff] at h
  refine (checkBytes_of_open h1 h2 h3).trans ((if_neg (mt unaligned_iff.mpr h4)).trans ((if_neg ?_).trans (if_pos ?_)))
  · simpa only [List.any_eq_true, decide_eq_true_eq, not_exists, not_and, Nat.not_le] using h5
  · simpa only [List.any_eq_true, decide_eq_true_eq] using h

end

end

/-! ## Parts that begin with the checks -/

/-- The checks of the bytes an instruction accesses (R83). -/
def checkTouch (s : State) (k : Touch) : Res Nat := s.checkBytes k.write k.align k.seg k.ea k.offs

/-- Where there are bytes to access, `x` begins with their checks. -/
def BeginsWith {α : Type} (o : Option Touch) (s : State) (x : Res α) : Prop :=
  ∀ k, o = some k → ∃ f : Nat → Res α, x = checkTouch s k >>= f

theorem res_bind_assoc {α β γ : Type} (x : Res α) (f : α → Res β) (g : β → Res γ) :
    (x >>= f >>= g : Res γ) = x >>= fun a => f a >>= g := by
  cases x <;> rfl

theorem BeginsWith.bind {α β : Type} {o : Option Touch} {s : State} {x : Res α} (h : BeginsWith o s x) (g : α → Res β) :
    BeginsWith o s (x >>= g) := fun k hk => by
  obtain ⟨f, rfl⟩ := h k hk
  exact ⟨_, res_bind_assoc ..⟩

theorem BeginsWith.map {α β : Type} {o : Option Touch} {s : State} {x : Res α} (h : BeginsWith o s x) (g : α → β) :
    BeginsWith o s (x.map g) := by
  have hmap : x.map g = x >>= fun a => .ok (g a) := by cases x <;> rfl
  rw [hmap]
  exact h.bind _

theorem beginsWith_none {α : Type} {s : State} {x : Res α} : BeginsWith none s x := nofun

theorem checkBytes_begins {α : Type} (s : State) (w : Bool) (al : Align) (seg : Seg) (ea : Dword) (offs : List Nat)
    (f : Nat → Res α) : BeginsWith (some ⟨seg, ea, offs, w, al⟩) s (s.checkBytes w al seg ea offs >>= f) :=
  fun k hk => ⟨f, by cases hk; rfl⟩

/-- The bytes of a memory operand. -/
def touchOf (s : State) (m : MemOp) (n : Nat) (write : Bool) (al : Align) : Option Touch :=
  some ⟨m.seg, s.effAddr m, List.range n, write, al⟩

theorem checkAccess_begins {α : Type} (s : State) (w : Bool) (al : Align) (m : MemOp) (n : Nat) (f : Nat → Res α) :
    BeginsWith (touchOf s m n w al) s (s.checkAccess w al m n >>= f) := checkBytes_begins s w al _ _ _ f

theorem load_begins (s : State) (al : Align) (m : MemOp) (w : Nat) :
    BeginsWith (touchOf s m (w / 8) false al) s (s.load al m w) := checkAccess_begins s false al m _ _

theorem store_begins {w : Nat} (s : State) (nt : Bool) (al : Align) (m : MemOp) (v : BitVec w) :
    BeginsWith (touchOf s m (w / 8) true al) s (s.store nt al m v) := checkAccess_begins s true al m _ _

theorem maskedStore_begins {k : Nat} (data mask : BitVec k) (seg : Seg) (s : State) :
    BeginsWith (some ⟨seg, s.readGpr 7, selected mask, true, .free⟩) s (maskedStore data mask seg s) := by
  rw [maskedStore_eq]
  exact checkBytes_begins s true .free seg _ _ _

/-! ## Register or memory -/

/-- Of the instructions `mk rm`, one with a register accesses no memory, one with memory reads `n` bytes there. -/
structure ReadsRM (mk : RM → Instr) (n : Nat) (al : Align) : Prop where
  reg : ∀ r s, touch (mk (.reg r)) s = none
  mem : ∀ m s, touch (mk (.mem m)) s = touchOf s m n false al

section
variable {mk : RM → Instr} {w : Nat}

theorem ReadsRM.mmOrMem (h : ReadsRM mk (w / 8) .checked) (rm : RM) (s : State) :
    BeginsWith (touch (mk rm) s) s (s.mmOrMem w rm) :=
  match rm with
  | .reg r => h.reg r s ▸ beginsWith_none
  | .mem m => h.mem m s ▸ load_begins s .checked m w

theorem ReadsRM.xmmOrMem (h : ReadsRM mk (w / 8) .checked) (rm : RM) (s : State) :
    BeginsWith (touch (mk rm) s) s (s.xmmOrMem w rm) :=
  match rm with
  | .reg r => h.reg r s ▸ beginsWith_none
  | .mem m => h.mem m s ▸ load_begins s .checked m w

theorem ReadsRM.xmmOrMem128 (h : ReadsRM mk 16 .must16) (rm : RM) (s : State) :
    BeginsWith (touch (mk rm) s) s (s.xmmOrMem128 rm) :=
  match rm with
  | .reg r => h.reg r s ▸ beginsWith_none
  | .mem m => h.mem m s ▸ load_begins s .must16 m 128

theorem ReadsRM.gprOrMem (h : ReadsRM mk (w / 8) .checked) (rm : RM) (s : State) :
    BeginsWith (touch (mk rm) s) s (s.gprOrMem w rm) :=
  match rm with
  | .reg r => h.reg r s ▸ beginsWith_none
  | .mem m => h.mem m s ▸ load_begins s .checked m w

/-- The alignment of a packed source of `w` bits: 16 bytes are aligned (R84, R86, R88). -/
def packedAlign (w : Nat) : Align := if w = 128 then .must16 else .checked

theorem ReadsRM.packedSource (h : ReadsRM mk (w / 8) (packedAlign w)) (rm : RM) (s : State) :
    BeginsWith (touch (mk rm) s) s (s.packedSource w rm) := by
  unfold packedAlign at h
  unfold State.packedSource
  split
  · next hw =>
    subst hw
    exact (h.xmmOrMem128 rm s).map _
  · next hw =>
    rw [if_neg hw] at h
    exact h.xmmOrMem rm s

end

/-! ## Meanings -/

/-- Where the instruction is ready and accesses memory, its meaning begins with the checks of the access. -/
def Accesses (i : Instr) (r : State → Result) : Prop :=
  ∀ s k, touch i s = some k → Ready i s → ∃ f : Nat → Res State, r s = settle s (checkTouch s k >>= f)

section
variable {i : Instr} {x : Ext} {f : State → Res State}

theorem Accesses.none {r : State → Result} (h : ∀ s, touch i s = none) : Accesses i r :=
  fun s _ hk => nomatch (h s).symm.trans hk

theorem Accesses.after {c : State → Res Unit} (hc : ∀ s, Ready i s → c s = .ok ())
    (hf : ∀ s, BeginsWith (touch i s) s (f s)) : Accesses i fun s => settle s (c s >>= fun _ => f s) :=
  fun s k hk hready => by
    obtain ⟨g, hg⟩ := hf s k hk
    exact ⟨g, congrArg (settle s) (by rw [hc s hready]; exact hg)⟩

theorem Accesses.afterM (hk : klass i = (.m, x)) (hf : ∀ s, BeginsWith (touch i s) s (f s)) :
    Accesses i fun s => settle s (checkM x s >>= fun _ => f s) :=
  .after (fun s h => checkM_of_ready (by rwa [Ready, hk] at h)) hf

theorem Accesses.afterX (hk : klass i = (.x, x)) (hf : ∀ s, BeginsWith (touch i s) s (f s)) :
    Accesses i fun s => settle s (checkX x s >>= fun _ => f s) :=
  .after (fun s h => checkX_of_ready (by rwa [Ready, hk] at h)) hf

theorem Accesses.afterXM (hk : klass i = (.xm, x)) (hf : ∀ s, BeginsWith (touch i s) s (f s)) :
    Accesses i fun s => settle s (checkXM x s >>= fun _ => f s) :=
  .after (fun s h => checkXM_of_ready (by rwa [Ready, hk] at h)) hf

theorem Accesses.afterH (hk : klass i = (.h, x)) (hf : ∀ s, BeginsWith (touch i s) s (f s)) :
    Accesses i fun s => settle s (checkH x s >>= fun _ => f s) :=
  .after (fun s h => checkH_of_ready (by rwa [Ready, hk] at h)) hf

theorem Accesses.afterFX (hk : klass i = (.fx, .sse)) (hf : ∀ s, BeginsWith (touch i s) s (f s)) :
    Accesses i fun s => settle s (checkFX s >>= fun _ => f s) :=
  .after (fun s h => checkFX_of_ready (by rwa [Ready, hk] at h)) hf

end

section
variable {mk : Reg → Count → Instr} {reg : Reg} (rm : RM)

theorem mmxShift_accesses {f : Nat → Qword → Qword} (hk : klass (mk reg (.rm rm)) = (.m, .mmx))
    (h : ReadsRM (fun rm => mk reg (.rm rm)) 8 .checked) :
    Accesses (mk reg (.rm rm)) fun s => mmxShift f reg (.rm rm) s :=
  .afterM hk fun s => ((h.mmOrMem (w := 64) rm s).map _).bind _

theorem xmmShift_accesses {f : Nat → Xmm → Xmm} (hk : klass (mk reg (.rm rm)) = (.x, .sse2))
    (h : ReadsRM (fun rm => mk reg (.rm rm)) 16 .must16) :
    Accesses (mk reg (.rm rm)) fun s => xmmShift f reg (.rm rm) s :=
  .afterX hk fun s => ((h.xmmOrMem128 rm s).map _).bind _

end

section
variable {mk : RM → Instr} {x : Ext} {reg : Reg} (rm : RM)

theorem mmxOp_accesses {f : Qword → Qword → Qword} (hk : klass (mk rm) = (.m, x))
    (h : ReadsRM mk 8 .checked) : Accesses (mk rm) fun s => mmxOp x f reg rm s :=
  .afterM hk fun s => (h.mmOrMem (w := 64) rm s).bind _

theorem mmxLowOp_accesses {f : Qword → Qword → Qword} (hk : klass (mk rm) = (.m, x))
    (h : ReadsRM mk 4 .checked) : Accesses (mk rm) fun s => mmxLowOp x f reg rm s :=
  .afterM hk fun s => (h.mmOrMem (w := 32) rm s).bind _

theorem xmmOp_accesses {f : Xmm → Xmm → Xmm} (hk : klass (mk rm) = (.x, x))
    (h : ReadsRM mk 16 .must16) : Accesses (mk rm) fun s => xmmOp x f reg rm s :=
  .afterX hk fun s => (h.xmmOrMem128 rm s).bind _

theorem fpPacked_accesses {n : Nat} {op : LaneOp n} (hk : klass (mk rm) = (.x, x))
    (h : ReadsRM mk 16 .must16) : Accesses (mk rm) fun s => fpPacked x op reg rm s :=
  .afterX hk fun s => (h.xmmOrMem128 rm s).bind _

theorem fpScalar_accesses {n : Nat} {op : LaneOp n} (hk : klass (mk rm) = (.x, x))
    (h : ReadsRM mk (n / 8) .checked) : Accesses (mk rm) fun s => fpScalar x op reg rm s :=
  .afterX hk fun s => (h.xmmOrMem rm s).bind _

theorem fpCompare_accesses {n : Nat} {f : Fmt n} {anyNan : Bool} (hk : klass (mk rm) = (.x, x))
    (h : ReadsRM mk (n / 8) .checked) : Accesses (mk rm) fun s => fpCompare x f anyNan reg rm s :=
  .afterX hk fun s => (h.xmmOrMem rm s).bind _

theorem cvtPacked_accesses {k n w c : Nat} {f : Dword → BitVec k → Lane n}
    (hk : klass (mk rm) = (.x, .sse2)) (h : ReadsRM mk (w / 8) (packedAlign w)) :
    Accesses (mk rm) fun s => cvtPacked w c f reg rm s :=
  .afterX hk fun s => (h.packedSource rm s).bind _

theorem cvtScalar_accesses {k n : Nat} {f : Dword → BitVec k → Lane n} (hk : klass (mk rm) = (.x, .sse2))
    (h : ReadsRM mk (k / 8) .checked) : Accesses (mk rm) fun s => cvtScalar f reg rm s :=
  .afterX hk fun s => (h.xmmOrMem rm s).bind _

theorem cvtToGpr_accesses {k : Nat} {f : Dword → BitVec k → Lane 32} (hk : klass (mk rm) = (.x, x))
    (h : ReadsRM mk (k / 8) .checked) : Accesses (mk rm) fun s => cvtToGpr x f reg rm s :=
  .afterX hk fun s => (h.xmmOrMem rm s).bind _

theorem cvtFromGpr_accesses {n : Nat} {f : Dword → Dword → Lane n} (hk : klass (mk rm) = (.x, x))
    (h : ReadsRM mk 4 .checked) : Accesses (mk rm) fun s => cvtFromGpr x f reg rm s :=
  .afterX hk fun s => (h.gprOrMem (w := 32) rm s).bind _

theorem cvtToMm_accesses {k w : Nat} {f : Dword → BitVec k → Lane 32} (hk : klass (mk rm) = (.xm, x))
    (h : ReadsRM mk (w / 8) (packedAlign w)) : Accesses (mk rm) fun s => cvtToMm x w f reg rm s :=
  .afterXM hk fun s => (h.packedSource rm s).bind _

end

/-! ## Every instruction -/

/-- Every instruction that accesses memory begins with the checks of its access: by the shape of its meaning. -/
theorem exec_accesses : ∀ i, Accesses i fun s => exec i s
  | .paddbMm _ rm | .paddwMm _ rm | .padddMm _ rm | .paddsbMm _ rm | .paddswMm _ rm | .paddusbMm _ rm
  | .padduswMm _ rm | .psubbMm _ rm | .psubwMm _ rm | .psubdMm _ rm | .psubsbMm _ rm | .psubswMm _ rm
  | .psubusbMm _ rm | .psubuswMm _ rm | .pmullwMm _ rm | .pmulhwMm _ rm | .pmaddwdMm _ rm | .pcmpeqbMm _ rm
  | .pcmpeqwMm _ rm | .pcmpeqdMm _ rm | .pcmpgtbMm _ rm | .pcmpgtwMm _ rm | .pcmpgtdMm _ rm | .packsswbMm _ rm
  | .packssdwMm _ rm | .packuswbMm _ rm | .punpckhbwMm _ rm | .punpckhwdMm _ rm | .punpckhdqMm _ rm | .pandMm _ rm
  | .pandnMm _ rm | .porMm _ rm | .pxorMm _ rm | .pavgbMm _ rm | .pavgwMm _ rm | .pmaxswMm _ rm | .pmaxubMm _ rm
  | .pminswMm _ rm | .pminubMm _ rm | .pmulhuwMm _ rm | .psadbwMm _ rm | .paddqMm _ rm | .psubqMm _ rm
  | .pmuludqMm _ rm =>
    mmxOp_accesses rm rfl ⟨fun _ _ => rfl, fun _ _ => rfl⟩
  | .punpcklbwMm _ rm | .punpcklwdMm _ rm | .punpckldqMm _ rm =>
    mmxLowOp_accesses rm rfl ⟨fun _ _ => rfl, fun _ _ => rfl⟩
  | .psllwMm _ (.rm rm) | .pslldMm _ (.rm rm) | .psllqMm _ (.rm rm) | .psrlwMm _ (.rm rm) | .psrldMm _ (.rm rm)
  | .psrlqMm _ (.rm rm) | .psrawMm _ (.rm rm) | .psradMm _ (.rm rm) =>
    mmxShift_accesses rm rfl ⟨fun _ _ => rfl, fun _ _ => rfl⟩
  | .andps _ rm | .andnps _ rm | .orps _ rm | .xorps _ rm | .unpckhps _ rm | .unpcklps _ rm | .andpd _ rm
  | .andnpd _ rm | .orpd _ rm | .xorpd _ rm | .unpckhpd _ rm | .unpcklpd _ rm | .paddbXmm _ rm | .paddwXmm _ rm
  | .padddXmm _ rm | .paddsbXmm _ rm | .paddswXmm _ rm | .paddusbXmm _ rm | .padduswXmm _ rm | .psubbXmm _ rm
  | .psubwXmm _ rm | .psubdXmm _ rm | .psubsbXmm _ rm | .psubswXmm _ rm | .psubusbXmm _ rm | .psubuswXmm _ rm
  | .pmullwXmm _ rm | .pmulhwXmm _ rm | .pmaddwdXmm _ rm | .pcmpeqbXmm _ rm | .pcmpeqwXmm _ rm | .pcmpeqdXmm _ rm
  | .pcmpgtbXmm _ rm | .pcmpgtwXmm _ rm | .pcmpgtdXmm _ rm | .packsswbXmm _ rm | .packssdwXmm _ rm
  | .packuswbXmm _ rm | .punpckhbwXmm _ rm | .punpckhwdXmm _ rm | .punpckhdqXmm _ rm | .pandXmm _ rm
  | .pandnXmm _ rm | .porXmm _ rm | .pxorXmm _ rm | .pavgbXmm _ rm | .pavgwXmm _ rm | .pmaxswXmm _ rm
  | .pmaxubXmm _ rm | .pminswXmm _ rm | .pminubXmm _ rm | .pmulhuwXmm _ rm | .psadbwXmm _ rm | .paddqXmm _ rm
  | .psubqXmm _ rm | .pmuludqXmm _ rm | .punpcklbwXmm _ rm | .punpcklwdXmm _ rm | .punpckldqXmm _ rm
  | .punpckhqdqXmm _ rm | .punpcklqdqXmm _ rm =>
    xmmOp_accesses rm rfl ⟨fun _ _ => rfl, fun _ _ => rfl⟩
  | .psllwXmm _ (.rm rm) | .pslldXmm _ (.rm rm) | .psllqXmm _ (.rm rm) | .psrlwXmm _ (.rm rm)
  | .psrldXmm _ (.rm rm) | .psrlqXmm _ (.rm rm) | .psrawXmm _ (.rm rm) | .psradXmm _ (.rm rm) =>
    xmmShift_accesses rm rfl ⟨fun _ _ => rfl, fun _ _ => rfl⟩
  | .pshufw reg rm imm =>
    show Accesses (.pshufw reg rm imm) fun s => execPshufw reg rm imm s from
      mmxOp_accesses (mk := fun rm => .pshufw reg rm imm) rm rfl ⟨fun _ _ => rfl, fun _ _ => rfl⟩
  | .shufps reg rm imm =>
    show Accesses (.shufps reg rm imm) fun s => execShufps reg rm imm s from
      xmmOp_accesses (mk := fun rm => .shufps reg rm imm) rm rfl ⟨fun _ _ => rfl, fun _ _ => rfl⟩
  | .shufpd reg rm imm =>
    show Accesses (.shufpd reg rm imm) fun s => execShufpd reg rm imm s from
      xmmOp_accesses (mk := fun rm => .shufpd reg rm imm) rm rfl ⟨fun _ _ => rfl, fun _ _ => rfl⟩
  | .pshufd reg rm imm =>
    show Accesses (.pshufd reg rm imm) fun s => execPshufd reg rm imm s from
      xmmOp_accesses (mk := fun rm => .pshufd reg rm imm) rm rfl ⟨fun _ _ => rfl, fun _ _ => rfl⟩
  | .pshufhw reg rm imm =>
    show Accesses (.pshufhw reg rm imm) fun s => execPshufhw reg rm imm s from
      xmmOp_accesses (mk := fun rm => .pshufhw reg rm imm) rm rfl ⟨fun _ _ => rfl, fun _ _ => rfl⟩
  | .pshuflw reg rm imm =>
    show Accesses (.pshuflw reg rm imm) fun s => execPshuflw reg rm imm s from
      xmmOp_accesses (mk := fun rm => .pshuflw reg rm imm) rm rfl ⟨fun _ _ => rfl, fun _ _ => rfl⟩
  | .addps _ rm | .subps _ rm | .mulps _ rm | .divps _ rm | .maxps _ rm | .minps _ rm | .sqrtps _ rm | .rcpps _ rm
  | .rsqrtps _ rm | .addpd _ rm | .subpd _ rm | .mulpd _ rm | .divpd _ rm | .maxpd _ rm | .minpd _ rm
  | .sqrtpd _ rm =>
    fpPacked_accesses rm rfl ⟨fun _ _ => rfl, fun _ _ => rfl⟩
  | .addss _ rm | .subss _ rm | .mulss _ rm | .divss _ rm | .maxss _ rm | .minss _ rm | .sqrtss _ rm | .rcpss _ rm
  | .rsqrtss _ rm | .addsd _ rm | .subsd _ rm | .mulsd _ rm | .divsd _ rm | .maxsd _ rm | .minsd _ rm
  | .sqrtsd _ rm =>
    fpScalar_accesses rm rfl ⟨fun _ _ => rfl, fun _ _ => rfl⟩
  | .cmpps reg rm pred => fpPacked_accesses (mk := fun rm => .cmpps reg rm pred) rm rfl ⟨fun _ _ => rfl, fun _ _ => rfl⟩
  | .cmppd reg rm pred => fpPacked_accesses (mk := fun rm => .cmppd reg rm pred) rm rfl ⟨fun _ _ => rfl, fun _ _ => rfl⟩
  | .cmpss reg rm pred => fpScalar_accesses (mk := fun rm => .cmpss reg rm pred) rm rfl ⟨fun _ _ => rfl, fun _ _ => rfl⟩
  | .cmpsd reg rm pred => fpScalar_accesses (mk := fun rm => .cmpsd reg rm pred) rm rfl ⟨fun _ _ => rfl, fun _ _ => rfl⟩
  | .comiss _ rm | .ucomiss _ rm | .comisd _ rm | .ucomisd _ rm =>
    fpCompare_accesses rm rfl ⟨fun _ _ => rfl, fun _ _ => rfl⟩
  | .cvtpd2dq _ rm | .cvttpd2dq _ rm | .cvtdq2pd _ rm | .cvtps2pd _ rm | .cvtpd2ps _ rm | .cvtdq2ps _ rm
  | .cvtps2dq _ rm | .cvttps2dq _ rm =>
    cvtPacked_accesses rm rfl ⟨fun _ _ => rfl, fun _ _ => rfl⟩
  | .cvtss2sd _ rm | .cvtsd2ss _ rm =>
    cvtScalar_accesses rm rfl ⟨fun _ _ => rfl, fun _ _ => rfl⟩
  | .cvtss2si _ rm | .cvttss2si _ rm | .cvtsd2si _ rm | .cvttsd2si _ rm =>
    cvtToGpr_accesses rm rfl ⟨fun _ _ => rfl, fun _ _ => rfl⟩
  | .cvtsi2ss _ rm | .cvtsi2sd _ rm =>
    cvtFromGpr_accesses rm rfl ⟨fun _ _ => rfl, fun _ _ => rfl⟩
  | .cvtps2pi _ rm | .cvttps2pi _ rm | .cvtpd2pi _ rm | .cvttpd2pi _ rm =>
    cvtToMm_accesses rm rfl ⟨fun _ _ => rfl, fun _ _ => rfl⟩
  | .movaps .load _ (.mem m) | .movapd .load _ (.mem m) | .movdqa .load _ (.mem m) | .movups .load _ (.mem m)
  | .movupd .load _ (.mem m) | .movdqu .load _ (.mem m) =>
    .afterX rfl fun s => (load_begins s _ m 128).bind _
  | .movaps .store _ (.mem m) | .movapd .store _ (.mem m) | .movdqa .store _ (.mem m) | .movups .store _ (.mem m)
  | .movupd .store _ (.mem m) | .movdqu .store _ (.mem m) | .movntps _ m | .movntpd _ m | .movntdq _ m =>
    .afterX rfl fun s => store_begins (w := 128) s _ _ m _
  | .movss .load _ (.mem m) | .ldmxcsr m =>
    .afterX rfl fun s => (load_begins s .checked m 32).bind _
  | .movsd .load _ (.mem m) | .movlps .load _ m | .movhps .load _ m | .movlpd .load _ m | .movhpd .load _ m
  | .cvtpi2pd _ (.mem m) =>
    .afterX rfl fun s => (load_begins s .checked m 64).bind _
  | .movss .store _ (.mem m) | .movdXmm .store _ (.mem m) | .stmxcsr m =>
    .afterX rfl fun s => store_begins (w := 32) s _ _ m _
  | .movsd .store _ (.mem m) | .movqXmm .store _ (.mem m) | .movlps .store _ m | .movhps .store _ m
  | .movlpd .store _ m | .movhpd .store _ m =>
    .afterX rfl fun s => store_begins (w := 64) s _ _ m _
  | .movdXmm .load r rm =>
    .afterX rfl fun s =>
      (ReadsRM.gprOrMem (mk := fun rm => .movdXmm .load r rm) (w := 32) ⟨fun _ _ => rfl, fun _ _ => rfl⟩ rm s).bind _
  | .pinsrwXmm r rm imm =>
    .afterX rfl fun s =>
      (ReadsRM.gprOrMem (mk := fun rm => .pinsrwXmm r rm imm) (w := 16) ⟨fun _ _ => rfl, fun _ _ => rfl⟩ rm s).bind _
  | .movqXmm .load r rm =>
    .afterX rfl fun s =>
      (ReadsRM.xmmOrMem (mk := fun rm => .movqXmm .load r rm) (w := 64) ⟨fun _ _ => rfl, fun _ _ => rfl⟩ rm s).bind _
  | .movdMm .load r rm =>
    .afterM rfl fun s =>
      (ReadsRM.gprOrMem (mk := fun rm => .movdMm .load r rm) (w := 32) ⟨fun _ _ => rfl, fun _ _ => rfl⟩ rm s).bind _
  | .pinsrwMm r rm imm =>
    .afterM rfl fun s =>
      (ReadsRM.gprOrMem (mk := fun rm => .pinsrwMm r rm imm) (w := 16) ⟨fun _ _ => rfl, fun _ _ => rfl⟩ rm s).bind _
  | .movqMm .load r rm =>
    .afterM rfl fun s =>
      (ReadsRM.mmOrMem (mk := fun rm => .movqMm .load r rm) (w := 64) ⟨fun _ _ => rfl, fun _ _ => rfl⟩ rm s).bind _
  | .cvtpi2ps r rm =>
    .afterXM rfl fun s =>
      (ReadsRM.mmOrMem (mk := fun rm => .cvtpi2ps r rm) (w := 64) ⟨fun _ _ => rfl, fun _ _ => rfl⟩ rm s).bind _
  | .movdMm .store _ (.mem m) => .afterM rfl fun s => (store_begins (w := 32) s _ _ m _).bind _
  | .movqMm .store _ (.mem m) | .movntq _ m =>
    .afterM rfl fun s => (store_begins (w := 64) s _ _ m _).bind _
  | .maskmovq _ _ seg => .afterM rfl fun s => (maskedStore_begins _ _ seg s).bind _
  | .maskmovdqu _ _ seg => .afterX rfl fun s => maskedStore_begins _ _ seg s
  | .fxsave m => .afterFX rfl fun s => checkAccess_begins s true .must16 m 512 _
  | .fxrstor m => .afterFX rfl fun s => checkAccess_begins s false .must16 m 512 _
  | .movnti _ m => .afterH rfl fun s => store_begins (w := 32) s _ _ m _
  | .clflush m => .afterH rfl fun s => checkAccess_begins s false .free m 1 _
  | .psllwMm _ (.imm _) | .pslldMm _ (.imm _) | .psllqMm _ (.imm _) | .psrlwMm _ (.imm _) | .psrldMm _ (.imm _)
  | .psrlqMm _ (.imm _) | .psrawMm _ (.imm _) | .psradMm _ (.imm _) | .psllwXmm _ (.imm _) | .pslldXmm _ (.imm _)
  | .psllqXmm _ (.imm _) | .psrlwXmm _ (.imm _) | .psrldXmm _ (.imm _) | .psrlqXmm _ (.imm _)
  | .psrawXmm _ (.imm _) | .psradXmm _ (.imm _) | .movaps .load _ (.reg _) | .movups .load _ (.reg _)
  | .movapd .load _ (.reg _) | .movupd .load _ (.reg _) | .movdqa .load _ (.reg _) | .movdqu .load _ (.reg _)
  | .movss .load _ (.reg _) | .movsd .load _ (.reg _) | .movaps .store _ (.reg _) | .movups .store _ (.reg _)
  | .movapd .store _ (.reg _) | .movupd .store _ (.reg _) | .movdqa .store _ (.reg _) | .movdqu .store _ (.reg _)
  | .movss .store _ (.reg _) | .movsd .store _ (.reg _) | .movdXmm .store _ (.reg _) | .movqXmm .store _ (.reg _)
  | .movdMm .store _ (.reg _) | .movqMm .store _ (.reg _) | .cvtpi2pd _ (.reg _) | .movhlps .. | .movlhps ..
  | .pslldq .. | .psrldq .. | .movmskps .. | .movmskpd .. | .pmovmskbXmm .. | .pmovmskbMm .. | .pextrwXmm ..
  | .pextrwMm .. | .movdq2q .. | .movq2dq .. | .prefetcht0 .. | .prefetcht1 .. | .prefetcht2 .. | .prefetchnta ..
  | .emms | .pause | .lfence | .sfence | .mfence =>
    .none fun _ => rfl

/-! ## The statement -/

/-- The offsets of the bytes an instruction accesses rise. -/
theorem touch_offs_rising {i : Instr} {s : State} {k : Touch} (h : touch i s = some k) : k.offs.Pairwise (· < ·) := by
  unfold touch at h
  split at h
  · cases h
    exact List.pairwise_lt_range.filter _
  · cases h
    exact List.pairwise_lt_range.filter _
  · obtain ⟨a, _, rfl⟩ := Option.map_eq_some_iff.mp h
    exact List.pairwise_lt_range

/-- What stops the checks of its access stops the instruction. -/
theorem exec_of_checkTouch_error {i : Instr} {s : State} {k : Touch} {e : Stop} (hk : touch i s = some k)
    (hready : Ready i s) (h : checkTouch s k = .error e) : exec i s = settle s (.error e) := by
  obtain ⟨f, hf⟩ := exec_accesses i s k hk hready
  rw [h] at hf
  exact hf

/-- A masked store whose mask selects nothing does nothing (R672). -/
theorem maskedStore_of_none {k : Nat} {data mask : BitVec k} {seg : Seg} {s : State} (h : selected mask = []) :
    maskedStore data mask seg s = .ok s := by
  rw [maskedStore_eq, selectedBytes, h]
  have hcheck : s.checkBytes true .free seg (s.readGpr 7) [] = .ok (s.linear seg (s.readGpr 7)) :=
    checkBytes_eq_ok.mpr ⟨rfl, nofun, nofun, nofun, nofun, nofun⟩
  rw [hcheck]
  rfl

/-- Settles O12: every instruction with a memory operand begins with its checks, so what stops them stops it. -/
theorem memoryExceptionsInOrder : Obligations.MemoryExceptionsInOrder := by
  refine ⟨fun i s k hk hready => ?_, fun reg rm seg s => ⟨fun hready h => ?_, fun hready h => ?_⟩⟩
  · have stops : ∀ {e : Stop}, checkTouch s k = .error e → exec i s = settle s (.error e) :=
      exec_of_checkTouch_error hk hready
    have takes : ∀ {e : Exn} {code addr : Option Dword}, checkTouch s k = raise ⟨e, code, addr, 0#6⟩ →
        exec i s = .next (took s e code addr) := fun h => (stops h).trans (congrArg _ (takeException_eq_took ..))
    refine ⟨fun h => takes (checkBytes_of_misaligned h), fun h1 h => takes (checkBytes_of_outside h1 h),
      fun h1 h2 o ho p h hlow hp => takes (checkBytes_of_closed h1 h2 (touch_offs_rising hk) ho h hlow hp),
      fun h1 h2 h3 => ⟨fun h => takes (checkBytes_of_unaligned h1 h2 h3 h),
        fun h4 h => stops (checkBytes_of_past_space h1 h2 h3 h4 h),
        fun h4 h5 h => stops (checkBytes_of_other_memory h1 h2 h3 h4 h5 h)⟩⟩
  · exact settle_afterM_touch hready (maskedStore_of_none h)
  · exact settle_afterX hready (maskedStore_of_none h)

end Sys2Proof.Machine
end

section
/-! SUPPORT. Addresses of operands, and the instructions that change nothing (20_memory.md rules R82, R99, R104, R105,
30_encoding.md rules R125, R126, R140). -/

namespace Sys2Proof.Machine

open Sys2Proof.Spec

/-- CLFLUSH of a byte that can be read changes nothing (R649). -/
theorem exec_clflush {s : State} {m : MemOp} (hready : ReadyH .sse2 s) (hread : CanRead s .free m 1) :
    exec (.clflush m) s = .next s := show execClflush m s = _ by
  rw [execClflush, checkH_of_ready hready, checkAccess_of_canRead hread]
  rfl

/-- Settles O25: each only makes its checks. -/
theorem hintsChangeNothing : Obligations.HintsChangeNothing := by
  intro s m
  refine ⟨fun hready => ?_, fun hready => settle_afterH hready rfl, rfl, exec_clflush⟩
  simp only [List.forall_mem_cons]
  exact ⟨settle_afterH hready rfl, settle_afterH hready rfl, settle_afterH hready rfl, settle_afterH hready rfl,
    fun _ h => nomatch h⟩

theorem State.linear_eq (s : State) (seg : Seg) (ea : Dword) :
    s.linear seg ea = ((s.segment seg).base.toNat + ea.toNat) % 2 ^ 32 := BitVec.toNat_add ..

/-- The three parts of an effective address add up modulo 2^32 (R125, R126). -/
theorem State.effAddr_toNat (s : State) (m : MemOp) :
    (s.effAddr m).toNat =
      ((match m.base with | some b => (s.readGpr b).toNat | none => 0) +
        (match m.index with | some i => (s.readGpr i).toNat * 2 ^ m.scale.toNat | none => 0) +
        m.disp.toNat) % 2 ^ 32 := by
  unfold State.effAddr
  cases m.base <;> cases m.index <;>
    simp only [BitVec.toNat_add, BitVec.toNat_shiftLeft, Nat.shiftLeft_eq, Nat.mod_add_mod, Nat.add_mod_mod,
      BitVec.toNat_ofNat, Nat.zero_mod]

/-- Settles O26: both addresses are sums of machine words. -/
theorem linearAddress : Obligations.LinearAddress := by
  refine fun s m => ⟨s.linear_eq m.seg _, s.effAddr_toNat m, fun hbase => ?_⟩
  rw [s.linear_eq, hbase]
  exact (congrArg (· % 2 ^ 32) (Nat.zero_add _)).trans (Nat.mod_eq_of_lt (s.effAddr m).isLt)

end Sys2Proof.Machine
end

section
/-! SUPPORT. The decoder: what is encoded and what the rules' words decode to, and that a decoded instruction has no more
bytes than the decoder was given (30_encoding.md rules R120 to R141). -/

namespace Sys2Proof

/-! ## Words and encodings -/

/-- Settles O4: the encoder and the decoder agree row by row. -/
theorem decodeEncode : Obligations.DecodeEncode := fun _ _ rest hwf hx => decode_encode rest hwf hx

/-- Settles O5: the decoder is run on each word. -/
theorem decodedWords : Obligations.DecodedWords := by
  unfold Obligations.DecodedWords
  decide +kernel

/-! ## The length of a decoded instruction (R141 step 10) -/

/-- An instruction of at most `n` bytes, if it is one. -/
def Decoded.Within (n : Nat) : Decoded → Prop
  | .instr _ len => len ≤ n
  | .undefined | .refused _ | .needMore => True

theorem finish_within (total : Nat) (i : Instr) (rest : List Byte) : (finish total i rest).Within total :=
  Nat.sub_le total rest.length

theorem decodeOperands_within (ps : List Byte) (total : Nat) (f : Form) (modrm : Byte) (bs : List Byte) :
    (decodeOperands ps total f modrm bs).Within total := by
  cases f with
  | regReg | fixed | masked => exact finish_within ..
  | regRm | regRmImm | regMem | mem | regRegImm | rmImm =>
    unfold decodeOperands
    dsimp only
    split
    · exact finish_within ..
    · trivial
  | regRmPred =>
    unfold decodeOperands
    dsimp only
    split
    · split
      · exact finish_within ..
      · trivial
    · trivial

theorem noRow_within (n : Nat) (op modrm : Byte) : (noRow op modrm).Within n := by
  unfold noRow
  split
  · trivial
  · split <;> trivial

theorem decodeRow_within (x : Ext) (ps : List Byte) (total : Nat) (op modrm : Byte) (rows : List Row) (bs : List Byte) :
    (decodeRow x ps total op modrm rows bs).Within total := by
  unfold decodeRow
  split
  · exact noRow_within ..
  split
  · trivial
  split
  · split <;> trivial
  split
  · trivial
  · exact decodeOperands_within ..

theorem decodeOpcode_within (x : Ext) (ps : List Byte) (total : Nat) (p : Pfx) (op : Byte) (bs : List Byte) :
    (decodeOpcode x ps total p op bs).Within total := by
  unfold decodeOpcode
  split
  · split
    · trivial
    · exact finish_within ..
  split
  · trivial
  split
  · trivial
  · exact decodeRow_within ..

theorem decodePause_within (ps : List Byte) (total : Nat) (bs : List Byte) :
    (decodePause ps total bs).Within total := by
  unfold decodePause
  split
  · trivial
  split
  · trivial
  · exact finish_within ..

theorem decode_within (x : Ext) (bs : List Byte) : (decode x bs).Within bs.length := by
  unfold decode
  dsimp only
  split
  · trivial
  split
  · exact decodePause_within ..
  split
  · trivial
  split
  · trivial
  split
  · trivial
  · exact decodeOpcode_within ..

/-- A decoded instruction has no more bytes than the decoder was given. -/
theorem length_le_of_decode {x : Ext} {bs : List Byte} {i : Instr} {len : Nat} (h : decode x bs = .instr i len) :
    len ≤ bs.length := by
  have hw := decode_within x bs
  rwa [h] at hw

end Sys2Proof
end

section
/-! SUPPORT. How `eip` moves over a step: past a completed instruction, nowhere on an exception, and never past the bytes
that can be fetched below 2^32 (10_state.md rule R31, 30_encoding.md rule R142). -/

namespace Sys2Proof.Machine

open Sys2Proof.Spec

/-- What drains changes memory, the buffer and the model's counter alone. -/
theorem State.drain_eq (s : State) :
    s.drain = { s with mem := s.drain.mem, sb := s.drain.sb, oracle := s.drain.oracle } := by
  unfold State.drain
  split
  · rfl
  · rw [State.foldl_drainAt_eq]

@[simp] theorem State.drain_eip (s : State) : s.drain.eip = s.eip := by rw [State.drain_eq]

@[simp] theorem State.drain_raised (s : State) : s.drain.raised = s.raised := by rw [State.drain_eq]

/-- The bytes that are fetched lie below offset 2^32. -/
theorem fetch_end_le (s : State) : s.eip.toNat + s.fetch.1.length ≤ 2 ^ 32 := by
  obtain ⟨hbytes, _⟩ := window_fetch s
  cases hn : s.fetch.1.length with
  | zero => exact Nat.le_of_lt s.eip.isLt
  | succ n => exact (hbytes n _ (List.getElem?_eq_getElem (by omega))).1

section
variable {i : Instr} {s t : State}

theorem Wrote.raised_kept (h : Wrote i s t) : t.raised = s.raised := by cases h <;> rfl

theorem Completes.raised_kept (h : Completes i s t) : t.raised = s.raised :=
  h.kept (f := State.raised) (fun _ _ _ _ _ => rfl) fun _ => Wrote.raised_kept

theorem Completes.eip_kept (h : Completes i s t) : t.eip = s.eip := by
  have hc := h.control
  simp only [State.control, Prod.mk.injEq] at hc
  obtain ⟨_, _, _, _, _, _, heip⟩ := hc
  exact heip

/-- An instruction runs to one of two ends: nothing is recorded and `eip` has moved past it, or an exception is recorded and
`eip` stays (R142). -/
theorem past_exec_next {len : Nat} (hs : s.raised = none) (h : past len (exec i s) = .next t) :
    (t.raised = none ∧ t.eip = s.eip + BitVec.ofNat 32 len) ∨ ∃ r, t.raised = some r ∧ t.eip = s.eip ∧ r.eip = s.eip := by
  cases he : exec i s with
  | fault f => rw [he] at h; cases h
  | refused r => rw [he] at h; cases h
  | next u =>
    rw [he] at h
    obtain rfl : advance len u = t := by cases h; rfl
    rcases exec_next he with hc | ⟨x, _, rfl⟩
    · have hu : u.raised = none := hc.raised_kept.trans hs
      rw [advance_eq, if_pos hu]
      exact .inl ⟨hu, congrArg (· + BitVec.ofNat 32 len) hc.eip_kept⟩
    · exact .inr ⟨_, rfl, rfl, rfl⟩

end

/-- Settles O9: an instruction that completes keeps `eip`, which then moves past it; an exception records it; and the bytes
of a decoded instruction were all fetched, below 2^32. -/
theorem eipAdvancesByLength : Obligations.EipAdvancesByLength := by
  intro s t i len hs hdec hstep
  rw [step_of_instr hs hdec] at hstep
  have hpast := past_exec_next (s.drain_raised.trans hs) hstep
  rw [s.drain_eip] at hpast
  have hend := fetch_end_le s.drain
  rw [s.drain_eip] at hend
  refine ⟨fun ht => ?_, fun r hr => ?_, (Nat.add_le_add_left (length_le_of_decode hdec) _).trans hend⟩
  · rcases hpast with ⟨_, heip⟩ | ⟨r, hr, _⟩
    · rw [heip, BitVec.ofNat_add, BitVec.ofNat_toNat, BitVec.setWidth_eq]
    · cases ht.symm.trans hr
  · rcases hpast with ⟨hn, _⟩ | ⟨r', hr', heip⟩
    · cases hn.symm.trans hr
    · cases hr.symm.trans hr'
      exact heip

end Sys2Proof.Machine
end

section
/-! SUPPORT. The packed integer operations, on values of any width: what each leaves in every lane is the formula of its
rule (40_mmx.md, 40_mmx_pack_logic_shift.md, 43_sse_int_state_cache.md, 47_sse2_int128_new.md), and which operation each
instruction of an MMX and an XMM form runs in both. -/

namespace Sys2Proof.Machine

open Sys2Proof.Spec

/-! ## Saturation (00_scope.md rule R13) -/

theorem satS_eq_clampS (w : Nat) (n : Int) : satS w n = clampS w n := by
  have hpos : (0 : Int) < 2 ^ (w - 1) := by positivity
  unfold satS clampS
  split
  · next h => rw [max_eq_left (by omega)]
  · split
    · next h => rw [min_eq_right (by omega), max_eq_right (by omega)]
    · next h => rw [min_eq_left (by omega), max_eq_right (by omega)]

theorem satU_eq_clampU (w : Nat) (n : Int) : satU w n = clampU w n := by
  have hpos : (0 : Int) < 2 ^ w := by positivity
  unfold satU clampU
  split
  · next h => rw [max_eq_left (by omega)]; rfl
  · split
    · next h =>
      rw [min_eq_right (by omega), max_eq_right (by omega)]
      apply BitVec.eq_of_toNat_eq
      have hmod : ((2 : Int) ^ w - 1) % 2 ^ w = 2 ^ w - 1 := Int.emod_eq_of_lt (by omega) (by omega)
      have hcast : ((2 ^ w : Nat) : Int) = 2 ^ w := by norm_cast
      rw [BitVec.toNat_ofInt, BitVec.toNat_allOnes, hcast, hmod]
      omega
    · next h => rw [min_eq_left (by omega), max_eq_right (by omega)]

/-! ## One lane -/

section
variable {w : Nat} (x y : BitVec w)

theorem sub_eq_ofInt : x - y = BitVec.ofInt w (x.toNat - y.toNat : Int) := by
  rw [Int.sub_eq_add_neg, BitVec.ofInt_add, BitVec.ofInt_neg, BitVec.ofInt_natCast, BitVec.ofInt_natCast,
    BitVec.ofNat_toNat, BitVec.ofNat_toNat, BitVec.setWidth_eq, BitVec.setWidth_eq, BitVec.sub_eq_add_neg]

theorem mul_eq_ofInt : x * y = BitVec.ofInt w (x.toInt * y.toInt) := by
  rw [BitVec.ofInt_mul, BitVec.ofInt_toInt, BitVec.ofInt_toInt]

/-- The high half of a number of twice the width. -/
theorem extractLsb'_ofInt_two_mul (n : Int) :
    (BitVec.ofInt (2 * w) n).extractLsb' w w = BitVec.ofInt w (n / 2 ^ w) := by
  have hpos : (0 : Int) < 2 ^ w := by positivity
  apply BitVec.eq_of_toNat_eq
  apply Int.ofNat_inj.mp
  have hsq : (2 : Int) ^ (2 * w) = 2 ^ w * 2 ^ w := by rw [two_mul, pow_add]
  have hn : n / 2 ^ w = n % 2 ^ (2 * w) / 2 ^ w + 2 ^ w * (n / 2 ^ (2 * w)) := by
    conv_lhs => rw [← Int.emod_add_mul_ediv n (2 ^ (2 * w)), hsq, Int.mul_assoc,
      Int.add_mul_ediv_left _ _ hpos.ne']
    rw [hsq]
  have hmod : 0 ≤ n % 2 ^ (2 * w) := Int.emod_nonneg _ (by positivity)
  have hmod' : 0 ≤ n / 2 ^ w % 2 ^ w := Int.emod_nonneg _ hpos.ne'
  rw [BitVec.extractLsb'_toNat, BitVec.toNat_ofInt, BitVec.toNat_ofInt, Nat.shiftRight_eq_div_pow]
  push_cast
  rw [Int.toNat_of_nonneg hmod, Int.toNat_of_nonneg hmod', hn, Int.add_mul_emod_self_left]

/-- The high half of a signed product (R222). -/
theorem mulHighS_eq_ofInt :
    (x.signExtend (2 * w) * y.signExtend (2 * w)).extractLsb' w w = BitVec.ofInt w (x.toInt * y.toInt / 2 ^ w) := by
  rw [BitVec.signExtend, BitVec.signExtend, ← BitVec.ofInt_mul, extractLsb'_ofInt_two_mul]

/-- The high half of an unsigned product (R421). -/
theorem mulHighU_eq_ofNat :
    (x.setWidth (2 * w) * y.setWidth (2 * w)).extractLsb' w w = BitVec.ofNat w (x.toNat * y.toNat / 2 ^ w) := by
  rw [← BitVec.ofNat_toNat, ← BitVec.ofNat_toNat, ← BitVec.ofNat_mul, ← BitVec.ofInt_natCast, extractLsb'_ofInt_two_mul,
    ← BitVec.ofInt_natCast]
  norm_cast

theorem maxS_eq_ofInt : (if y.slt x then x else y) = BitVec.ofInt w (max x.toInt y.toInt) := by
  rw [max_comm, max_def_lt, apply_ite (BitVec.ofInt w), BitVec.ofInt_toInt, BitVec.ofInt_toInt]
  simp only [BitVec.slt_iff_toInt_lt]

theorem minS_eq_ofInt : (if x.slt y then x else y) = BitVec.ofInt w (min x.toInt y.toInt) := by
  rw [min_def_lt, apply_ite (BitVec.ofInt w), BitVec.ofInt_toInt, BitVec.ofInt_toInt]
  simp only [BitVec.slt_iff_toInt_lt]

theorem maxU_eq_ofNat : (if y.ult x then x else y) = BitVec.ofNat w (max x.toNat y.toNat) := by
  rw [max_comm, max_def_lt, apply_ite (BitVec.ofNat w), BitVec.ofNat_toNat, BitVec.ofNat_toNat,
    BitVec.setWidth_eq, BitVec.setWidth_eq]
  simp only [BitVec.ult_iff_toNat_lt]

theorem minU_eq_ofNat : (if x.ult y then x else y) = BitVec.ofNat w (min x.toNat y.toNat) := by
  rw [min_def_lt, apply_ite (BitVec.ofNat w), BitVec.ofNat_toNat, BitVec.ofNat_toNat,
    BitVec.setWidth_eq, BitVec.setWidth_eq]
  simp only [BitVec.ult_iff_toNat_lt]

theorem mask_eq_ones (b : Bool) (p : Prop) [Decidable p] (h : b = true ↔ p) : mask w b = ones w p := by
  unfold mask ones
  simp only [h]

theorem eqMask_eq_ones : mask w (x == y) = ones w (x.toNat = y.toNat) :=
  mask_eq_ones _ _ (by rw [beq_iff_eq, BitVec.toNat_inj])

theorem gtMask_eq_ones : mask w (y.slt x) = ones w (y.toInt < x.toInt) := mask_eq_ones _ _ BitVec.slt_iff_toInt_lt

end

theorem absDiff_eq_natAbs (x y : Byte) : absDiff x y = ((x.toNat : Int) - y.toNat).natAbs := by
  unfold absDiff
  omega

/-! ## Lanes of a value -/

section
variable {k w i : Nat}

/-- Every lane lies inside the value. -/
theorem lane_end_le (hi : i < k / w) : w * i + w ≤ k := by
  rw [← Nat.mul_succ, Nat.mul_comm]
  exact Nat.mul_le_of_le_div _ _ _ (Nat.succ_le_of_lt hi)

/-- A lane of one bit is the bit. -/
theorem lane_one (v : BitVec k) : lane 1 i v = BitVec.ofBool (v.getLsbD i) := by
  apply BitVec.eq_of_getLsbD_eq
  intro j hj
  obtain rfl : j = 0 := by omega
  simp [lane]

/-- Widening or narrowing keeps the lanes that the new width still holds. -/
theorem lane_setWidth {n : Nat} (v : BitVec n) (h : w * i + w ≤ k) : lane w i (v.setWidth k) = lane w i v :=
  BitVec.extractLsb'_setWidth_of_le h

/-- Packing: the lanes of `a`, then those of `b`, narrowed (R230 to R232). -/
theorem lane_packWith (hw : 0 < w) (hk : 2 * w ∣ k) (f : Int → BitVec w) (a b : BitVec k) (hi : i < k / w) :
    lane w i (packWith w f a b) =
      f (if i < k / (2 * w) then (lane (2 * w) i a).toInt else (lane (2 * w) (i - k / (2 * w)) b).toInt) := by
  have hcount : k / w = k / (2 * w) + k / (2 * w) := by
    obtain ⟨c, rfl⟩ := hk
    rw [Nat.mul_div_cancel_left _ (by omega), Nat.mul_right_comm, Nat.mul_div_cancel _ hw]
    omega
  rw [packWith, lane_ofLanes hw _ _ (lane_end_le hi), List.getElem?_map, lanes, lanes, List.getElem?_append]
  by_cases h : i < k / (2 * w)
  · simp [h]
  · have hb : i - k / (2 * w) < k / (2 * w) := by omega
    simp [h, hb]

/-- Unpacking: the lanes of `a` and `b` in turn (R233 to R238). -/
theorem lane_interleave (hw : 0 < w) (start : Nat) (a b : BitVec k) (hi : i < k / w) :
    lane w i (interleave w start a b) = lane w (start + i / 2) (if i % 2 = 0 then a else b) := by
  rw [interleave, lane_build hw _ hi, apply_ite (lane w _)]

theorem selector_eq_sel (imm : Imm8) (j : Nat) : selector imm j = sel imm j := by
  rw [selector, sel, BitVec.extractLsb'_toNat, Nat.shiftRight_eq_div_pow, pow_mul]
  rfl

end

/-! ## The instructions of an MMX and an XMM form -/

/-- Both forms of a packed operation run `f`, on values of their width, and its lanes are the ones that the operation's rule
gives. -/
structure RunsAs (p : Packed) (f : (k : Nat) → BitVec k → BitVec k → BitVec k) : Prop where
  mm    : ∀ reg rm s, exec (p.mm reg rm) s = mmxOp p.ext (f 64) reg rm s
  xmm   : ∀ reg rm s, exec (p.xmm reg rm) s = xmmOp .sse2 (f 128) reg rm s
  lanes : ∀ {k i} (a b : BitVec k), 64 ∣ k → i < k / p.width → lane p.width i (f k a b) = p.value k i a b

section
variable {x : Ext} {mm xmm : Reg → RM → Instr} {w : Nat}

theorem each_runsAs {f g : BitVec w → BitVec w → BitVec w} (hfg : ∀ a b, f a b = g a b) (hw : 0 < w)
    (hmm : ∀ reg rm s, exec (mm reg rm) s = mmxOp x (map2 w f) reg rm s)
    (hxmm : ∀ reg rm s, exec (xmm reg rm) s = xmmOp .sse2 (map2 w f) reg rm s) :
    ∃ h, RunsAs (each x mm xmm w g) h :=
  ⟨fun _ => map2 w f, hmm, hxmm, fun _ _ _ hi => (lane_map2 hw f _ _ hi).trans (hfg _ _)⟩

theorem packWith_runsAs {f g : Int → BitVec w} (hfg : ∀ n, f n = g n) (hw : 0 < w) (hd : 2 * w ∣ 64)
    (hmm : ∀ reg rm s, exec (mm reg rm) s = mmxOp x (packWith w f) reg rm s)
    (hxmm : ∀ reg rm s, exec (xmm reg rm) s = xmmOp .sse2 (packWith w f) reg rm s) :
    ∃ h, RunsAs ⟨x, mm, xmm, w, fun k i a b => g (if i < k / (2 * w) then (lane (2 * w) i a).toInt
      else (lane (2 * w) (i - k / (2 * w)) b).toInt)⟩ h :=
  ⟨fun _ => packWith w f, hmm, hxmm, fun a b hk hi =>
    (lane_packWith hw (hd.trans hk) f a b hi).trans (hfg _)⟩

theorem unpackHigh_runsAs (hw : 0 < w) (hmm : ∀ reg rm s, exec (mm reg rm) s = mmxOp x (unpackHigh w) reg rm s)
    (hxmm : ∀ reg rm s, exec (xmm reg rm) s = xmmOp .sse2 (unpackHigh w) reg rm s) :
    ∃ h, RunsAs ⟨x, mm, xmm, w, fun k i a b => lane w (k / (w * 2) + i / 2) (if i % 2 = 0 then a else b)⟩ h := by
  refine ⟨fun _ => unpackHigh w, hmm, hxmm, fun a b _ hi => ?_⟩
  rw [unpackHigh, Nat.div_div_eq_div_mul, lane_interleave hw _ a b hi]

theorem bitwise_runsAs {f : (k : Nat) → BitVec k → BitVec k → BitVec k} {g : Bool → Bool → Bool}
    (hfg : ∀ k i (a b : BitVec k), i < k → (f k a b).getLsbD i = g (a.getLsbD i) (b.getLsbD i))
    (hmm : ∀ reg rm s, exec (mm reg rm) s = mmxOp x (f 64) reg rm s)
    (hxmm : ∀ reg rm s, exec (xmm reg rm) s = xmmOp .sse2 (f 128) reg rm s) :
    ∃ h, RunsAs ⟨x, mm, xmm, 1, fun _ i a b => BitVec.ofBool (g (a.getLsbD i) (b.getLsbD i))⟩ h :=
  ⟨f, hmm, hxmm, fun a b _ hi => (lane_one _).trans (congrArg _ (hfg _ _ a b (by rwa [Nat.div_one] at hi)))⟩

end

/-- By the shape of the operation: lane by lane, products summed in pairs or widened, differences summed, packed, unpacked,
bit by bit. -/
theorem packed_runsAs : ∀ p ∈ packed, ∃ f, RunsAs p f := by
  simp only [packed, List.forall_mem_cons]
  refine ⟨?paddb, ?paddw, ?paddd, ?paddq, ?paddsb, ?paddsw, ?paddusb, ?paddusw, ?psubb, ?psubw, ?psubd, ?psubq, ?psubsb,
    ?psubsw, ?psubusb, ?psubusw, ?pmullw, ?pmulhw, ?pmulhuw, ?pmaddwd, ?pmuludq, ?pavgb, ?pavgw, ?pmaxsw, ?pminsw,
    ?pmaxub, ?pminub, ?psadbw, ?pcmpeqb, ?pcmpeqw, ?pcmpeqd, ?pcmpgtb, ?pcmpgtw, ?pcmpgtd, ?packsswb, ?packssdw,
    ?packuswb, ?punpckhbw, ?punpckhwd, ?punpckhdq, ?pand, ?pandn, ?por, ?pxor, nofun⟩
  case paddb | paddw | paddd | paddq =>
    exact each_runsAs BitVec.add_def (by decide) (fun _ _ _ => rfl) fun _ _ _ => rfl
  case paddsb | paddsw | psubsb | psubsw =>
    exact each_runsAs (fun _ _ => satS_eq_clampS ..) (by decide) (fun _ _ _ => rfl) fun _ _ _ => rfl
  case paddusb | paddusw | psubusb | psubusw =>
    exact each_runsAs (fun _ _ => satU_eq_clampU ..) (by decide) (fun _ _ _ => rfl) fun _ _ _ => rfl
  case psubb | psubw | psubd | psubq =>
    exact each_runsAs sub_eq_ofInt (by decide) (fun _ _ _ => rfl) fun _ _ _ => rfl
  case pmullw => exact each_runsAs mul_eq_ofInt (by decide) (fun _ _ _ => rfl) fun _ _ _ => rfl
  case pmulhw => exact each_runsAs mulHighS_eq_ofInt (by decide) (fun _ _ _ => rfl) fun _ _ _ => rfl
  case pmulhuw => exact each_runsAs mulHighU_eq_ofNat (by decide) (fun _ _ _ => rfl) fun _ _ _ => rfl
  case pmaddwd =>
    refine ⟨fun _ => packedMulAdd, fun _ _ _ => rfl, fun _ _ _ => rfl, fun a b _ hi => ?_⟩
    rw [packedMulAdd, lane_build (by decide) _ hi]
    simp only [BitVec.signExtend, BitVec.ofInt_add, BitVec.ofInt_mul]
  case pmuludq =>
    refine ⟨fun _ => packedMulU32, fun _ _ _ => rfl, fun _ _ _ => rfl, fun a b _ hi => ?_⟩
    rw [packedMulU32, lane_build (by decide) _ hi]
    simp only [BitVec.ofNat_mul, BitVec.ofNat_toNat]
  case pavgb | pavgw => exact each_runsAs (fun _ _ => rfl) (by decide) (fun _ _ _ => rfl) fun _ _ _ => rfl
  case pmaxsw => exact each_runsAs maxS_eq_ofInt (by decide) (fun _ _ _ => rfl) fun _ _ _ => rfl
  case pminsw => exact each_runsAs minS_eq_ofInt (by decide) (fun _ _ _ => rfl) fun _ _ _ => rfl
  case pmaxub => exact each_runsAs maxU_eq_ofNat (by decide) (fun _ _ _ => rfl) fun _ _ _ => rfl
  case pminub => exact each_runsAs minU_eq_ofNat (by decide) (fun _ _ _ => rfl) fun _ _ _ => rfl
  case psadbw =>
    refine ⟨fun _ => packedSad, fun _ _ _ => rfl, fun _ _ _ => rfl, fun a b _ hi => ?_⟩
    rw [packedSad, lane_build (by decide) _ hi]
    simp only [absDiff_eq_natAbs]
  case pcmpeqb | pcmpeqw | pcmpeqd =>
    exact each_runsAs eqMask_eq_ones (by decide) (fun _ _ _ => rfl) fun _ _ _ => rfl
  case pcmpgtb | pcmpgtw | pcmpgtd =>
    exact each_runsAs gtMask_eq_ones (by decide) (fun _ _ _ => rfl) fun _ _ _ => rfl
  case packsswb | packssdw =>
    exact packWith_runsAs (satS_eq_clampS _) (by decide) (by decide) (fun _ _ _ => rfl) fun _ _ _ => rfl
  case packuswb =>
    exact packWith_runsAs (satU_eq_clampU _) (by decide) (by decide) (fun _ _ _ => rfl) fun _ _ _ => rfl
  case punpckhbw | punpckhwd | punpckhdq =>
    exact unpackHigh_runsAs (by decide) (fun _ _ _ => rfl) fun _ _ _ => rfl
  case pand =>
    exact bitwise_runsAs (f := fun _ a b => a &&& b) (g := (· && ·)) (fun _ _ _ _ _ => BitVec.getLsbD_and)
      (fun _ _ _ => rfl) fun _ _ _ => rfl
  case pandn =>
    exact bitwise_runsAs (f := fun _ => andNot) (g := fun a b => !a && b) (fun _ _ _ _ hi => by simp [andNot, hi])
      (fun _ _ _ => rfl) fun _ _ _ => rfl
  case por =>
    exact bitwise_runsAs (f := fun _ a b => a ||| b) (g := (· || ·)) (fun _ _ _ _ _ => BitVec.getLsbD_or)
      (fun _ _ _ => rfl) fun _ _ _ => rfl
  case pxor =>
    exact bitwise_runsAs (f := fun _ a b => a ^^^ b) (g := bne) (fun _ _ _ _ _ => BitVec.getLsbD_xor)
      (fun _ _ _ => rfl) fun _ _ _ => rfl

end Sys2Proof.Machine
end

section
/-! SUPPORT. The instructions with an MMX register as destination: their operand read, the register written, and nothing else
changed but the x87 side effects (10_state.md rule R35; 40_mmx.md rules R200 to R229, 47_sse2_int128_new.md rules R626,
R627). -/

namespace Sys2Proof.Machine

open Sys2Proof.Spec

/-! ## Operands and results -/

section
variable {s : State} {rm : RM} {w : Nat} {b : BitVec w}

theorem mmOrMem_of_holds (hw : w % 8 = 0) (h : Holds s .checked s.readMm rm b) : s.mmOrMem w rm = .ok b := by
  cases rm with
  | reg r => exact congrArg _ (show b = _ from h).symm
  | mem m =>
    obtain ⟨hread, hspells⟩ := h
    exact load_of_canRead hw hread hspells

theorem gprOrMem_of_holds (hw : w % 8 = 0) (h : Holds s .checked s.readGpr rm b) : s.gprOrMem w rm = .ok b := by
  cases rm with
  | reg r => exact congrArg _ (show b = _ from h).symm
  | mem m =>
    obtain ⟨hread, hspells⟩ := h
    exact load_of_canRead hw hread hspells

end

theorem wroteMm_writeMm (s : State) (r : Reg) (v : Qword) : WroteMm s (s.writeMm r v) r v :=
  ⟨rfl, State.byte_congr rfl rfl rfl⟩

theorem wroteGpr_writeGpr (s : State) (r : Reg) (v : Dword) : WroteGpr s (s.writeGpr r v) r v :=
  ⟨rfl, State.byte_congr rfl rfl rfl⟩

theorem wroteXmm_writeXmm (s : State) (r : Reg) (v : Xmm) : WroteXmm s (s.writeXmm r v) r v :=
  ⟨rfl, State.byte_congr rfl rfl rfl⟩

/-! ## Two operands -/

/-- A row's instruction, with its checks passed and its source read, writes `f` of both operands, and the lanes of `f` are
the ones that the row's rule gives. -/
structure WritesMm {j : Nat} (r : Spec.Row 64 j) (f : Qword → BitVec j → Qword) : Prop where
  runs  : ∀ {reg rm s b}, checkM r.ext s = .ok () → s.mmOrMem j rm = .ok b →
    exec (r.make reg rm) s = .next (s.writeMm reg (f (s.readMm reg) b))
  lanes : ∀ {i} (a : Qword) (b : BitVec j), i < 64 / r.width → lane r.width i (f a b) = r.value i a b

theorem mmRows_writesMm (imm : Imm8) : ∀ r ∈ mmRows imm, ∃ f, WritesMm r f := by
  intro r hr
  rcases List.mem_append.mp hr with hr | hr
  · obtain ⟨p, hp, rfl⟩ := List.mem_map.mp hr
    obtain ⟨f, hf⟩ := packed_runsAs p hp
    exact ⟨f 64, fun hc hb => (hf.mm ..).trans (mmxOp_eq hc hb), fun a b hi => hf.lanes a b (Nat.dvd_refl 64) hi⟩
  · obtain rfl := List.mem_singleton.mp hr
    refine ⟨fun _ b => shuffle 16 imm b, fun hc hb => mmxOp_eq (f := fun _ b => shuffle 16 imm b) hc hb,
      fun a b hi => ?_⟩
    exact (lane_build (by decide : 0 < 16) _ hi).trans (congrArg (lane 16 · b) (selector_eq_sel imm _))

/-- A low unpack takes lanes of the low halves alone (R236 to R238). -/
theorem unpackLow_writesMm {x : Ext} {make : Reg → RM → Instr} {w : Nat} (hw : 0 < w)
    (hexec : ∀ reg rm s, exec (make reg rm) s = mmxLowOp x (unpackLow w) reg rm s) :
    ∃ f, WritesMm (j := 32)
      ⟨x, make, w, fun i a b => if i % 2 = 0 then lane w (i / 2) a else lane w (i / 2) b⟩ f := by
  refine ⟨fun a b => unpackLow w a (b.setWidth 64), fun hc hb => (hexec ..).trans (mmxLowOp_eq hc hb),
    fun {i} a b hi => ?_⟩
  have hlane : w * (i / 2) + w ≤ 64 := lane_end_le (Nat.lt_of_le_of_lt (Nat.div_le_self i 2) hi)
  rw [unpackLow, lane_interleave hw 0 a _ hi, Nat.zero_add, apply_ite (lane w _), lane_setWidth b hlane]

theorem mmLowRows_writesMm : ∀ r ∈ mmLowRows, ∃ f, WritesMm r f := by
  simp only [mmLowRows, List.forall_mem_cons]
  refine ⟨?punpcklbw, ?punpcklwd, ?punpckldq, nofun⟩
  all_goals exact unpackLow_writesMm (by decide) fun _ _ _ => rfl

/-- What a row's instruction leaves where it is ready and its source can be read. -/
theorem WritesMm.wroteMm {j : Nat} {r : Spec.Row 64 j} {f : Qword → BitVec j → Qword} (h : WritesMm r f) (hj : j % 8 = 0)
    {reg : Reg} {rm : RM} {s : State} {b : BitVec j} (hready : ReadyM r.ext s)
    (hb : Holds s .checked s.readMm rm b) :
    ∃ t v, exec (r.make reg rm) s = .next t ∧ WroteMm s t reg v ∧
      ∀ i, i < 64 / r.width → lane r.width i v = r.value i (s.readMm reg) b :=
  ⟨_, _, h.runs (checkM_of_ready hready) (mmOrMem_of_holds hj hb), wroteMm_writeMm .., fun _ => h.lanes _ b⟩

/-- Settles O27: every row's instruction writes an operation whose lanes are the row's. -/
theorem mmxTwoOperand : Obligations.MmxTwoOperand := by
  refine ⟨fun imm r hr reg rm s b hready hb => ?_, fun r hr reg rm s b hready hb => ?_⟩
  · obtain ⟨f, hf⟩ := mmRows_writesMm imm r hr
    exact hf.wroteMm (by decide) hready hb
  · obtain ⟨f, hf⟩ := mmLowRows_writesMm r hr
    exact hf.wroteMm (by decide) hready hb

/-! ## Moves (R203 to R206, R626, R627) -/

theorem settle_afterXM {s t : State} {x : Ext} {f : Res State} (h : ReadyXM x s) (hf : f = .ok t) :
    settle s (checkXM x s >>= fun _ => f) = .next t := by
  rw [checkXM_of_ready h, hf]; rfl

section
variable {s : State} (hready : ReadyM .mmx s)
include hready

theorem exec_movdMm_load {reg : Reg} {rm : RM} {x : Dword} (hx : s.gprOrMem 32 rm = .ok x) :
    exec (.movdMm .load reg rm) s = .next (s.writeMm reg (x.setWidth 64)) :=
  settle_afterM hready (by rw [hx]; rfl)

theorem exec_movdMm_store_reg (reg r : Reg) :
    exec (.movdMm .store reg (.reg r)) s = .next (s.writeGpr r ((s.readMm reg).setWidth 32)).touchX87 :=
  settle_afterM hready rfl

theorem exec_movqMm_load {reg : Reg} {rm : RM} {x : Qword} (hx : s.mmOrMem 64 rm = .ok x) :
    exec (.movqMm .load reg rm) s = .next (s.writeMm reg x) :=
  settle_afterM hready (by rw [hx]; rfl)

theorem exec_movqMm_store_reg (reg r : Reg) :
    exec (.movqMm .store reg (.reg r)) s = .next (s.writeMm r (s.readMm reg)) :=
  settle_afterM hready rfl

end

section
variable {s : State} (hready : ReadyXM .sse2 s) (reg rm : Reg)
include hready

theorem exec_movdq2q : exec (.movdq2q reg rm) s = .next (s.writeMm reg (lane 64 0 (s.readXmm rm))) :=
  settle_afterXM hready rfl

theorem exec_movq2dq :
    exec (.movq2dq reg rm) s = .next (s.writeXmm reg ((s.readMm rm).setWidth 128)).touchX87 :=
  settle_afterXM hready rfl

end

/-- Settles O30: each move's answer, with the value it writes in the statement's form. -/
theorem mmxMoves : Obligations.MmxMoves := by
  refine fun s => ⟨fun hready => ⟨fun reg rm x hx => ?_, fun reg r => ?_, fun reg rm x hx => ?_, fun reg r => ?_⟩,
    fun hready reg rm => ⟨?_, ?_⟩⟩
  · have hzeros : x.setWidth 64 = 0#32 ++ x := BitVec.setWidth_eq_append (by decide)
    rw [← hzeros]
    exact ⟨_, exec_movdMm_load hready (gprOrMem_of_holds (by decide) hx), wroteMm_writeMm ..⟩
  · rw [← BitVec.setWidth_eq_extractLsb' (by decide)]
    exact ⟨_, exec_movdMm_store_reg hready reg r, wroteGpr_writeGpr (valid s) ..⟩
  · exact ⟨_, exec_movqMm_load hready (mmOrMem_of_holds (by decide) hx), wroteMm_writeMm ..⟩
  · exact ⟨_, exec_movqMm_store_reg hready reg r, wroteMm_writeMm ..⟩
  · exact ⟨_, exec_movdq2q hready reg rm, wroteMm_writeMm ..⟩
  · have hzeros : (s.readMm rm).setWidth 128 = 0#64 ++ s.readMm rm := BitVec.setWidth_eq_append (by decide)
    rw [← hzeros]
    exact ⟨_, exec_movq2dq hready reg rm, wroteXmm_writeXmm (valid s) ..⟩

end Sys2Proof.Machine
end

section
/-! SUPPORT. The packed shifts, on values of any width: what each leaves in every lane is the formula of its rule, a count
past the lane included; and the MMX instructions that run them, with EMMS (40_mmx_pack_logic_shift.md rules R243 to
R259). -/

namespace Sys2Proof.Machine

open Sys2Proof.Spec

/-! ## One lane -/

section
variable {w : Nat} (c : Nat) (x : BitVec w)

theorem shl_eq_leftBy (hw : 0 < w) : (if w ≤ c then 0#w else x <<< c) = leftBy w c x := by
  have hpast : w ≤ c ↔ w - 1 < c := by omega
  have hin : x <<< c = BitVec.ofNat w (x.toNat * 2 ^ c) := by
    apply BitVec.eq_of_toNat_eq
    rw [BitVec.toNat_shiftLeft, BitVec.toNat_ofNat, Nat.shiftLeft_eq]
  simp only [leftBy, hpast, hin]

theorem ushr_eq_rightBy (hw : 0 < w) : (if w ≤ c then 0#w else x >>> c) = rightBy w c x := by
  have hpast : w ≤ c ↔ w - 1 < c := by omega
  have hin : x >>> c = BitVec.ofNat w (x.toNat / 2 ^ c) := by
    rw [← Nat.shiftRight_eq_div_pow, ← BitVec.toNat_ushiftRight, BitVec.ofNat_toNat, BitVec.setWidth_eq]
  simp only [rightBy, hpast, hin]

theorem sshr_eq_arithBy : x.sshiftRight (min c (w - 1)) = arithBy w c x := by
  have hdiv : x.toInt / 2 ^ min c (w - 1) = x.toInt >>> min c (w - 1) := by
    rw [Int.shiftRight_eq_div_pow, Nat.cast_pow, Nat.cast_ofNat]
  rw [arithBy, hdiv, ← BitVec.toInt_sshiftRight, BitVec.ofInt_toInt]

end

/-! ## The instructions of an MMX and an XMM form -/

/-- Both forms of a packed shift run `f`, on values of their width, and its lanes are the ones that the row's rule gives. -/
structure ShiftsAs (r : ShiftRow) (f : (k : Nat) → Nat → BitVec k → BitVec k) : Prop where
  mm    : ∀ dst count s, exec (r.mm dst count) s = mmxShift (f 64) dst count s
  xmm   : ∀ dst count s, exec (r.xmm dst count) s = xmmShift (f 128) dst count s
  lanes : ∀ {k i} (c : Nat) (a : BitVec k), i < k / r.width → lane r.width i (f k c a) = r.value c (lane r.width i a)

theorem map1_shiftsAs {mm xmm : Reg → Count → Instr} {w : Nat} {f g : Nat → BitVec w → BitVec w}
    (hfg : ∀ c x, f c x = g c x) (hw : 0 < w)
    (hmm : ∀ dst count s, exec (mm dst count) s = mmxShift (fun c => map1 w (f c)) dst count s)
    (hxmm : ∀ dst count s, exec (xmm dst count) s = xmmShift (fun c => map1 w (f c)) dst count s) :
    ∃ h, ShiftsAs ⟨mm, xmm, w, g⟩ h :=
  ⟨fun _ c => map1 w (f c), hmm, hxmm, fun c _ hi => (lane_map1 hw (f c) _ hi).trans (hfg c _)⟩

/-- By the direction and the sign of the shift, at every width of a lane. -/
theorem shifts_shiftsAs : ∀ r ∈ shifts, ∃ f, ShiftsAs r f := by
  simp only [shifts, List.forall_mem_cons]
  refine ⟨?psllw, ?pslld, ?psllq, ?psrlw, ?psrld, ?psrlq, ?psraw, ?psrad, nofun⟩
  case psllw | pslld | psllq =>
    exact map1_shiftsAs (fun c x => shl_eq_leftBy c x (by decide)) (by decide) (fun _ _ _ => rfl) fun _ _ _ => rfl
  case psrlw | psrld | psrlq =>
    exact map1_shiftsAs (fun c x => ushr_eq_rightBy c x (by decide)) (by decide) (fun _ _ _ => rfl) fun _ _ _ => rfl
  case psraw | psrad =>
    exact map1_shiftsAs sshr_eq_arithBy (by decide) (fun _ _ _ => rfl) fun _ _ _ => rfl

/-! ## MMX shifts (R243 to R258) -/

theorem mmCount_of_count {s : State} {count : Count} {c : Nat} (h : MmCount s count c) : s.mmCount count = .ok c := by
  cases count with
  | rm rm =>
    obtain ⟨b, hb, rfl⟩ := h
    rw [State.mmCount, mmOrMem_of_holds (by decide) hb]
    rfl
  | imm v => exact congrArg Except.ok (show c = v.toNat from h).symm

/-- Settles O28: every row's MMX form writes a shift whose lanes are the row's. -/
theorem mmxShifts : Obligations.MmxShifts := by
  intro r hr dst count s c hready hcount
  obtain ⟨f, hf⟩ := shifts_shiftsAs r hr
  have hexec : exec (r.mm dst count) s = .next (s.writeMm dst (f 64 c (s.readMm dst))) :=
    (hf.mm ..).trans (mmxShift_eq (checkM_of_ready hready) (mmCount_of_count hcount))
  exact ⟨_, _, hexec, wroteMm_writeMm .., fun _ => hf.lanes c _⟩

/-! ## EMMS (R259) -/

theorem exec_emms {s : State} (hready : ReadyM .mmx s) : exec .emms s = .next s.emptyX87 :=
  settle_afterM hready rfl

/-- `top` is 0 once its bits 13:11 are cleared. -/
theorem top_cleared (fsw : BitVec 16) : (fsw &&& 0xC7FF#16).extractLsb' 11 3 = 0#3 := by
  have hmask : (0xC7FF#16).extractLsb' 11 3 = 0#3 := rfl
  rw [BitVec.extractLsb'_and, hmask, BitVec.and_zero]

/-- Settles O31: EMMS leaves `emptyX87` of the state. -/
theorem emmsEmptiesTags : Obligations.EmmsEmptiesTags :=
  fun s hready => ⟨exec_emms hready, top_cleared s.fsw⟩

end Sys2Proof.Machine
end

section
/-! SUPPORT. Formats: the fields of a pattern that is built from a sign and a number, the classes by the exponent and the
fraction, and the magnitudes that a format holds (41_fp_numerics.md rules R270, R271). -/

namespace Sys2Proof.Machine

open Sys2Proof.Spec

/-- What the rules take for granted of a format (R270): a sign bit stands above its exponent and its fraction, neither of
these is degenerate, and the exponents reach further than the fraction's bits. -/
structure Fmt.Wf {n : Nat} (f : Fmt n) : Prop where
  width    : n = f.w + f.t + 1
  exponent : 3 ≤ f.w
  fraction : 2 ≤ f.t
  range    : f.t + 4 ≤ 2 ^ (f.w - 1)

theorem single_wf : single.Wf := ⟨rfl, by decide, by decide, by decide⟩

theorem double_wf : double.Wf := ⟨rfl, by decide, by decide, by decide⟩

section
variable {n : Nat} {f : Fmt n}

theorem Fmt.expo_lt (f : Fmt n) (x : BitVec n) : f.expo x < 2 ^ f.w := Nat.mod_lt _ (Nat.two_pow_pos _)

theorem Fmt.frac_lt (f : Fmt n) (x : BitVec n) : f.frac x < 2 ^ f.t := Nat.mod_lt _ (Nat.two_pow_pos _)

theorem Fmt.Wf.pred_width (hf : f.Wf) : n - 1 = f.w + f.t := by
  have := hf.width
  omega

theorem Fmt.Wf.eight_le_two_pow (hf : f.Wf) : 8 ≤ 2 ^ f.w := Nat.pow_le_pow_right (n := 2) (by decide) hf.exponent

theorem Fmt.Wf.top_add (hf : f.Wf) : f.top + 1 = 2 ^ f.w := by
  have := hf.eight_le_two_pow
  unfold Fmt.top
  omega

/-! ## Patterns from a sign and a number -/

section
variable (hf : f.Wf) (neg : Bool) {rest : Nat}
include hf

theorem Fmt.Wf.toNat_signed (h : rest < 2 ^ (f.w + f.t)) :
    (f.signed neg rest).toNat = (if neg then 2 ^ (f.w + f.t) else 0) + rest := by
  have hn : 2 ^ n = 2 ^ (f.w + f.t) + 2 ^ (f.w + f.t) :=
    (congrArg (2 ^ ·) hf.width).trans ((Nat.pow_succ ..).trans (Nat.mul_two _))
  rw [Fmt.signed, BitVec.toNat_ofNat, hf.pred_width, Nat.mod_eq_of_lt]
  split <;> omega

theorem Fmt.Wf.neg_signed (h : rest < 2 ^ (f.w + f.t)) : f.neg (f.signed neg rest) = neg := by
  rw [Fmt.neg, BitVec.msb_eq_decide, hf.toNat_signed neg h, hf.pred_width]
  cases neg <;> simp [h]

theorem Fmt.Wf.expo_signed (h : rest < 2 ^ (f.w + f.t)) : f.expo (f.signed neg rest) = rest / 2 ^ f.t := by
  have hsign : (if neg then 2 ^ (f.w + f.t) else 0) = (if neg then 2 ^ f.w else 0) * 2 ^ f.t := by
    split
    · exact Nat.pow_add ..
    · exact (Nat.zero_mul _).symm
  have hlt : rest / 2 ^ f.t < 2 ^ f.w := by
    rw [Nat.div_lt_iff_lt_mul (Nat.two_pow_pos _), ← Nat.pow_add]
    exact h
  rw [Fmt.expo, hf.toNat_signed neg h, hsign, Nat.add_comm, Nat.add_mul_div_right _ _ (Nat.two_pow_pos _)]
  split
  · rw [Nat.add_mod_right, Nat.mod_eq_of_lt hlt]
  · rw [Nat.add_zero, Nat.mod_eq_of_lt hlt]

theorem Fmt.Wf.frac_signed (h : rest < 2 ^ (f.w + f.t)) : f.frac (f.signed neg rest) = rest % 2 ^ f.t := by
  rw [Fmt.frac, hf.toNat_signed neg h, Nat.pow_add]
  split
  · exact Nat.mul_add_mod_self_right ..
  · rw [Nat.zero_add]

end

/-! ## Classes -/

theorem isNan_iff {x : BitVec n} : f.isNan x = true ↔ f.expo x = f.top ∧ f.frac x ≠ 0 := by simp [Fmt.isNan]

theorem isInf_iff {x : BitVec n} : f.isInf x = true ↔ f.expo x = f.top ∧ f.frac x = 0 := by simp [Fmt.isInf]

theorem isZero_iff {x : BitVec n} : f.isZero x = true ↔ f.expo x = 0 ∧ f.frac x = 0 := by simp [Fmt.isZero]

theorem isDenormal_iff {x : BitVec n} : f.isDenormal x = true ↔ f.expo x = 0 ∧ f.frac x ≠ 0 := by simp [Fmt.isDenormal]

theorem isFinite_iff {x : BitVec n} : IsFinite f x ↔ f.expo x ≠ f.top := by
  simp only [IsFinite, ← Bool.not_eq_true, isNan_iff, isInf_iff]
  tauto

theorem Fmt.Wf.top_pos (hf : f.Wf) : 6 < f.top := by
  have := hf.top_add
  have := hf.eight_le_two_pow
  omega

theorem isFinite_of_expo_zero {x : BitVec n} (hf : f.Wf) (h : f.expo x = 0) : IsFinite f x :=
  isFinite_iff.mpr fun htop => by have := hf.top_pos; omega

theorem isFinite_of_isZero {x : BitVec n} (hf : f.Wf) (h : f.isZero x = true) : IsFinite f x :=
  isFinite_of_expo_zero hf (isZero_iff.mp h).1

theorem isFinite_of_isDenormal {x : BitVec n} (hf : f.Wf) (h : f.isDenormal x = true) : IsFinite f x :=
  isFinite_of_expo_zero hf (isDenormal_iff.mp h).1

theorem isDenormal_of_not_finite {x : BitVec n} (hf : f.Wf) (h : ¬IsFinite f x) : f.isDenormal x = false := by
  rw [← Bool.not_eq_true]
  exact fun hd => h (isFinite_of_isDenormal hf hd)

theorem isZero_of_not_finite {x : BitVec n} (hf : f.Wf) (h : ¬IsFinite f x) : f.isZero x = false := by
  rw [← Bool.not_eq_true]
  exact fun hz => h (isFinite_of_isZero hf hz)

theorem not_finite_of_isInf {x : BitVec n} (h : f.isInf x = true) : ¬IsFinite f x := fun hx => by
  simp [h, IsFinite] at hx

theorem not_finite_of_isNan {x : BitVec n} (h : f.isNan x = true) : ¬IsFinite f x := fun hx => by
  simp [h, IsFinite] at hx

theorem isNan_of_isInf {x : BitVec n} (h : f.isInf x = true) : f.isNan x = false := by
  have := isInf_iff.mp h
  simp [Fmt.isNan, this]

theorem isSNan_of_not_nan {x : BitVec n} (h : f.isNan x = false) : f.isSNan x = false := by simp [Fmt.isSNan, h]

/-! ## Zeros and infinities -/

section
variable (hf : f.Wf) (neg : Bool)
include hf

theorem Fmt.Wf.isZero_zero : f.isZero (f.zero neg) = true :=
  isZero_iff.mpr ⟨(hf.expo_signed neg (Nat.two_pow_pos _)).trans (Nat.zero_div _),
    (hf.frac_signed neg (Nat.two_pow_pos _)).trans (Nat.zero_mod _)⟩

theorem Fmt.Wf.neg_zero : f.neg (f.zero neg) = neg := hf.neg_signed neg (Nat.two_pow_pos _)

theorem Fmt.Wf.inf_lt : f.top * 2 ^ f.t < 2 ^ (f.w + f.t) := by
  have := hf.top_add
  rw [Nat.pow_add]
  exact Nat.mul_lt_mul_of_pos_right (by omega) (Nat.two_pow_pos _)

theorem Fmt.Wf.isInf_inf : f.isInf (f.inf neg) = true :=
  isInf_iff.mpr ⟨(hf.expo_signed neg hf.inf_lt).trans (Nat.mul_div_cancel _ (Nat.two_pow_pos _)),
    (hf.frac_signed neg hf.inf_lt).trans (Nat.mul_mod_left ..)⟩

theorem Fmt.Wf.neg_inf : f.neg (f.inf neg) = neg := hf.neg_signed neg hf.inf_lt

end

/-- A pattern is its sign, its exponent and its fraction. -/
theorem Fmt.Wf.eq_signed (hf : f.Wf) (x : BitVec n) : x = f.signed (f.neg x) (f.expo x * 2 ^ f.t + f.frac x) := by
  have hn : 2 ^ n = 2 ^ (f.w + f.t) + 2 ^ (f.w + f.t) :=
    (congrArg (2 ^ ·) hf.width).trans ((Nat.pow_succ ..).trans (Nat.mul_two _))
  have hlow : f.expo x * 2 ^ f.t + f.frac x = x.toNat % 2 ^ (f.w + f.t) := by
    rw [Nat.add_comm f.w, Nat.pow_add, Nat.mod_mul, Nat.add_comm, Nat.mul_comm (2 ^ f.t)]
    rfl
  have hx := x.isLt
  rw [hlow]
  apply BitVec.eq_of_toNat_eq
  rw [hf.toNat_signed _ (Nat.mod_lt _ (Nat.two_pow_pos _)), Fmt.neg, BitVec.msb_eq_decide, hf.pred_width]
  simp only [decide_eq_true_eq]
  split
  · next h => rw [Nat.mod_eq_sub_mod h, Nat.mod_eq_of_lt (by omega)]; omega
  · next h => rw [Nat.mod_eq_of_lt (by omega), Nat.zero_add]

theorem Fmt.Wf.eq_inf (hf : f.Wf) {x : BitVec n} (h : f.isInf x = true) : x = f.inf (f.neg x) := by
  obtain ⟨hexpo, hfrac⟩ := isInf_iff.mp h
  have hx := hf.eq_signed x
  rw [hexpo, hfrac] at hx
  exact hx

/-! ## Magnitudes -/

/-- A magnitude that `t + 1` significant bits hold, the exponent unbounded above. -/
def Fmt.Fits (f : Fmt n) (u : Nat) : Prop := ∃ m q, m < 2 ^ (f.t + 1) ∧ u = m * 2 ^ q

theorem Fmt.fits_zero (f : Fmt n) : f.Fits 0 := ⟨0, 0, Nat.two_pow_pos _, rfl⟩

theorem Fmt.fits_two_pow (f : Fmt n) (q : Nat) : f.Fits (2 ^ q) :=
  ⟨1, q, Nat.one_lt_two_pow (Nat.succ_ne_zero _), (Nat.one_mul _).symm⟩

theorem Fmt.Fits.mul_two_pow {u : Nat} (h : f.Fits u) (k : Nat) : f.Fits (u * 2 ^ k) := by
  obtain ⟨m, q, hm, rfl⟩ := h
  exact ⟨m, q + k, hm, by rw [Nat.mul_assoc, Nat.pow_add]⟩

/-- A whole number of `t + 1` bits, or the power of two after them. -/
theorem Fmt.fits_of_le {m : Nat} (h : m ≤ 2 ^ (f.t + 1)) : f.Fits m := by
  rcases Nat.lt_or_eq_of_le h with h | rfl
  · exact ⟨m, 0, h, by rw [Nat.pow_zero, Nat.mul_one]⟩
  · exact f.fits_two_pow _

theorem Fmt.fits_units (f : Fmt n) (x : BitVec n) : f.Fits (f.units x) := by
  have := f.frac_lt x
  unfold Fmt.units
  split
  · exact Fmt.fits_of_le (by rw [Nat.pow_succ]; omega)
  · exact ⟨_, _, by rw [Nat.pow_succ]; omega, rfl⟩

/-- A magnitude's lowest bit: the place of the last of its `t + 1` significant bits, or the unit. -/
def Fmt.place (f : Fmt n) (u : Nat) : Nat := u.log2 - f.t

theorem Fmt.pack_eq (f : Fmt n) (neg : Bool) (u : Nat) :
    f.pack neg u = f.signed neg (f.place u * 2 ^ f.t + u / 2 ^ f.place u) := rfl

theorem Fmt.lt_of_place (f : Fmt n) (u : Nat) : u / 2 ^ f.place u < 2 ^ (f.t + 1) := by
  rw [Nat.div_lt_iff_lt_mul (Nat.two_pow_pos _), ← Nat.pow_add]
  refine Nat.lt_of_lt_of_le Nat.lt_log2_self (Nat.pow_le_pow_right (by decide) ?_)
  unfold Fmt.place
  omega

theorem Fmt.le_of_place_pos {u : Nat} (h : 0 < f.place u) : 2 ^ f.t ≤ u / 2 ^ f.place u := by
  rw [Nat.le_div_iff_mul_le (Nat.two_pow_pos _), ← Nat.pow_add]
  unfold Fmt.place at h ⊢
  have hu : u ≠ 0 := by
    rintro rfl
    simp at h
  rw [Nat.add_sub_cancel' (by omega)]
  exact Nat.log2_self_le hu

/-- Below `2^(t + 1 + k)` the last place is `k` at most. -/
theorem Fmt.place_le {u k : Nat} (h : u < 2 ^ (f.t + 1 + k)) : f.place u ≤ k := by
  unfold Fmt.place
  by_cases hu : u = 0
  · simp [hu]
  · have := (Nat.log2_lt hu).mpr h
    omega

theorem Fmt.le_place {u k : Nat} (h : 2 ^ (f.t + k) ≤ u) : k ≤ f.place u := by
  have hu : u ≠ 0 := fun h0 => by
    have := Nat.two_pow_pos (f.t + k)
    omega
  have := (Nat.le_log2 hu).mpr h
  unfold Fmt.place
  omega

theorem Fmt.place_of_lt {u : Nat} (h : u < 2 ^ f.t) : f.place u = 0 :=
  Nat.le_zero.mp (Fmt.place_le (h.trans_le (Nat.pow_le_pow_right (by decide) (by omega))))

/-- From `2^t` on, a magnitude's significant bits are `t + 1`. -/
theorem Fmt.le_of_not_lt {u : Nat} (h : ¬u < 2 ^ f.t) : 2 ^ f.t ≤ u / 2 ^ f.place u := by
  by_cases h0 : f.place u = 0
  · rw [h0, Nat.pow_zero, Nat.div_one]
    exact Nat.le_of_not_lt h
  · exact Fmt.le_of_place_pos (Nat.pos_of_ne_zero h0)

theorem Fmt.Fits.dvd {u : Nat} (h : f.Fits u) : u / 2 ^ f.place u * 2 ^ f.place u = u := by
  obtain ⟨m, q, hm, rfl⟩ := h
  refine Nat.div_mul_cancel (Dvd.dvd.mul_left (Nat.pow_dvd_pow 2 (Fmt.place_le ?_)) m)
  rw [Nat.pow_add]
  exact Nat.mul_lt_mul_of_pos_right hm (Nat.two_pow_pos _)

/-! ## The greatest magnitude -/

/-- The place of the last bit of the greatest finite magnitude. -/
def Fmt.maxPlace (f : Fmt n) : Nat := f.top - 2

theorem Fmt.maxUnits_add (f : Fmt n) : f.maxUnits + 2 ^ f.maxPlace = 2 ^ (f.t + 1 + f.maxPlace) := by
  have := Nat.two_pow_pos (f.t + 1)
  rw [Fmt.maxUnits, ← Fmt.maxPlace, ← Nat.succ_mul, Nat.succ_eq_add_one, Nat.sub_add_cancel this, ← Nat.pow_add]

theorem Fmt.fits_maxUnits (f : Fmt n) : f.Fits f.maxUnits :=
  ⟨_, f.maxPlace, Nat.sub_lt (Nat.two_pow_pos _) Nat.one_pos, rfl⟩

theorem Fmt.lt_of_le_maxUnits {u : Nat} (h : u ≤ f.maxUnits) : u < 2 ^ (f.t + 1 + f.maxPlace) := by
  have := f.maxUnits_add
  have := Nat.two_pow_pos f.maxPlace
  omega

theorem Fmt.two_pow_maxPlace_le (f : Fmt n) : 2 ^ (f.t + f.maxPlace) ≤ f.maxUnits := by
  have hadd := f.maxUnits_add
  have hpow : 2 ^ f.maxPlace ≤ 2 ^ (f.t + f.maxPlace) := Nat.pow_le_pow_right (by decide) (by omega)
  rw [show f.t + 1 + f.maxPlace = f.t + f.maxPlace + 1 by omega, Nat.pow_succ] at hadd
  omega

theorem Fmt.two_pow_le_maxUnits (f : Fmt n) : 2 ^ f.t ≤ f.maxUnits :=
  (Nat.pow_le_pow_right (by decide) (Nat.le_add_right ..)).trans f.two_pow_maxPlace_le

/-- Between the greatest finite magnitude and the power of two after it nothing fits. -/
theorem Fmt.Fits.le_maxUnits_or {u : Nat} (h : f.Fits u) : u ≤ f.maxUnits ∨ f.maxUnits + 2 ^ f.maxPlace ≤ u := by
  rw [f.maxUnits_add]
  by_cases hu : u < 2 ^ (f.t + 1 + f.maxPlace)
  · refine .inl ?_
    have hplace : f.place u ≤ f.maxPlace := Fmt.place_le hu
    have hsig := f.lt_of_place u
    calc u = u / 2 ^ f.place u * 2 ^ f.place u := h.dvd.symm
      _ ≤ (2 ^ (f.t + 1) - 1) * 2 ^ f.maxPlace :=
          Nat.mul_le_mul (by omega) (Nat.pow_le_pow_right (by decide) hplace)
  · exact .inr (Nat.le_of_not_lt hu)

theorem Fmt.Wf.units_le_maxUnits {x : BitVec n} (hf : f.Wf) (h : IsFinite f x) : f.units x ≤ f.maxUnits := by
  have hexpo := f.expo_lt x
  have htop := hf.top_add
  have hne := isFinite_iff.mp h
  have hfrac := f.frac_lt x
  have hpow : 2 ^ (f.t + 1) = 2 ^ f.t + 2 ^ f.t := by rw [Nat.pow_succ, Nat.mul_two]
  unfold Fmt.units Fmt.maxUnits
  split
  · exact Nat.le_trans (by omega) (Nat.le_mul_of_pos_right _ (Nat.two_pow_pos _))
  · exact Nat.mul_le_mul (by omega) (Nat.pow_le_pow_right (by decide) (by omega))

/-! ## Packing a magnitude -/

section
variable (hf : f.Wf) (neg : Bool) {u : Nat}
include hf

theorem Fmt.Wf.pack_lt (h : u ≤ f.maxUnits) : f.place u * 2 ^ f.t + u / 2 ^ f.place u < 2 ^ (f.w + f.t) := by
  have hplace : f.place u ≤ f.maxPlace := Fmt.place_le (Fmt.lt_of_le_maxUnits h)
  have hsig := f.lt_of_place u
  have htop := hf.top_add
  have h6 := hf.top_pos
  have hpow : 2 ^ (f.t + 1) = 2 * 2 ^ f.t := by rw [Nat.pow_succ, Nat.mul_comm]
  have hlow : (f.place u + 2) * 2 ^ f.t ≤ 2 ^ (f.w + f.t) := by
    rw [Nat.pow_add]
    refine Nat.mul_le_mul_right _ ?_
    unfold Fmt.maxPlace at hplace
    omega
  rw [Nat.add_mul] at hlow
  omega

theorem Fmt.Wf.neg_pack (h : u ≤ f.maxUnits) : f.neg (f.pack neg u) = neg := hf.neg_signed neg (hf.pack_lt h)

theorem Fmt.Wf.frac_pack (h : u ≤ f.maxUnits) : f.frac (f.pack neg u) = u / 2 ^ f.place u % 2 ^ f.t := by
  rw [Fmt.pack_eq, hf.frac_signed neg (hf.pack_lt h)]
  exact Nat.mul_add_mod_self_right ..

theorem Fmt.Wf.expo_pack (h : u ≤ f.maxUnits) :
    f.expo (f.pack neg u) = if u < 2 ^ f.t then 0 else f.place u + 1 := by
  rw [Fmt.pack_eq, hf.expo_signed neg (hf.pack_lt h), Nat.mul_comm, Nat.mul_add_div (Nat.two_pow_pos _)]
  split
  · next hu =>
    have h0 := Fmt.place_of_lt hu
    rw [h0, Nat.pow_zero, Nat.div_one, Nat.div_eq_of_lt hu]
  · next hu =>
    have hlow := Fmt.le_of_not_lt hu
    have hsig := f.lt_of_place u
    rw [Nat.pow_succ, Nat.mul_comm] at hsig
    rw [Nat.div_eq_of_lt_le (k := 1) (by omega) (by omega)]

theorem Fmt.Wf.finite_pack (h : u ≤ f.maxUnits) : IsFinite f (f.pack neg u) := by
  have hplace : f.place u ≤ f.maxPlace := Fmt.place_le (Fmt.lt_of_le_maxUnits h)
  have h6 := hf.top_pos
  unfold Fmt.maxPlace at hplace
  rw [isFinite_iff, hf.expo_pack neg h]
  split <;> omega

/-- What fits is packed exactly. -/
theorem Fmt.Wf.units_pack (hfits : f.Fits u) (h : u ≤ f.maxUnits) : f.units (f.pack neg u) = u := by
  rw [Fmt.units, hf.expo_pack neg h, hf.frac_pack neg h]
  by_cases hu : u < 2 ^ f.t
  · have h0 : f.place u = 0 := Nat.le_zero.mp (Fmt.place_le (Nat.lt_of_lt_of_le hu
      (Nat.pow_le_pow_right (by decide) (by omega))))
    rw [if_pos hu, if_pos rfl, h0, Nat.pow_zero, Nat.div_one, Nat.mod_eq_of_lt hu]
  · have hlow : 2 ^ f.t ≤ u / 2 ^ f.place u := by
      by_cases h0 : f.place u = 0
      · rw [h0, Nat.pow_zero, Nat.div_one]
        omega
      · exact Fmt.le_of_place_pos (Nat.pos_of_ne_zero h0)
    have hsig := f.lt_of_place u
    rw [Nat.pow_succ] at hsig
    rw [if_neg hu, if_neg (Nat.succ_ne_zero _), Nat.add_sub_cancel, Nat.mod_eq_sub_mod hlow,
      Nat.mod_eq_of_lt (by omega), Nat.add_sub_cancel' hlow, hfits.dvd]

end

end

end Sys2Proof.Machine
end

section
/-! SUPPORT. Rounding (41_fp_numerics.md rules R273, R284 to R286): the two magnitudes of a format next to a quotient of
naturals, which of them each rounding mode takes, and that none of the format's lies nearer. -/

namespace Sys2Proof.Machine

open Sys2Proof.Spec

/-! ## Rounding modes -/

/-- Directed rounding of a magnitude away from zero, by the sign of the value. -/
def awayMode (rc : BitVec 2) (neg : Bool) : Bool := rc == 1#2 && neg || rc == 2#2 && !neg

section
variable {rc : BitVec 2} {neg : Bool} {num den : Nat}

theorem rc_cases (rc : BitVec 2) : rc = 0#2 ∨ rc = 1#2 ∨ rc = 2#2 ∨ rc = 3#2 := by
  revert rc
  decide

theorem awayMode_iff : awayMode rc neg = true ↔ rc = 1#2 ∧ neg = true ∨ rc = 2#2 ∧ neg = false := by simp [awayMode]

theorem awayMode_nearest (neg : Bool) : awayMode 0#2 neg = false := rfl

theorem towardMode_cases (h0 : rc ≠ 0#2) (h : awayMode rc neg = false) :
    rc = 1#2 ∧ neg = false ∨ rc = 2#2 ∧ neg = true ∨ rc = 3#2 := by
  rcases rc_cases rc with rfl | rfl | rfl | rfl
  · exact absurd rfl h0
  · exact .inl ⟨rfl, by simpa [awayMode] using h⟩
  · exact .inr (.inl ⟨rfl, by simpa [awayMode] using h⟩)
  · exact .inr (.inr rfl)

theorem roundQuotient_nearest (neg : Bool) (num den : Nat) :
    roundQuotient 0#2 neg num den =
      if den < 2 * (num % den) ∨ 2 * (num % den) = den ∧ num / den % 2 = 1 then num / den + 1 else num / den := by
  simp [roundQuotient]

theorem roundQuotient_away (h : awayMode rc neg = true) (num den : Nat) :
    roundQuotient rc neg num den = if num % den = 0 then num / den else num / den + 1 := by
  rcases awayMode_iff.mp h with ⟨rfl, rfl⟩ | ⟨rfl, rfl⟩
  · simp [roundQuotient]
  · simp [roundQuotient]

theorem roundQuotient_toward (h0 : rc ≠ 0#2) (h : awayMode rc neg = false) (num den : Nat) :
    roundQuotient rc neg num den = num / den := by
  rcases towardMode_cases h0 h with ⟨rfl, rfl⟩ | ⟨rfl, rfl⟩ | rfl
  · simp [roundQuotient]
  · simp [roundQuotient]
  · simp [roundQuotient]

/-- The three ways of rounding a magnitude: to nearest, away from zero, toward zero. -/
theorem mode_cases (rc : BitVec 2) (neg : Bool) :
    rc = 0#2 ∨ awayMode rc neg = true ∨ (rc ≠ 0#2 ∧ awayMode rc neg = false) := by
  by_cases h0 : rc = 0#2
  · exact .inl h0
  · cases h : awayMode rc neg
    · exact .inr (.inr ⟨h0, rfl⟩)
    · exact .inr (.inl rfl)

theorem roundQuotient_cases (rc : BitVec 2) (neg : Bool) (num den : Nat) :
    roundQuotient rc neg num den = num / den ∨ roundQuotient rc neg num den = num / den + 1 := by
  rcases mode_cases rc neg with rfl | haway | ⟨h0, htoward⟩
  · rw [roundQuotient_nearest]
    split
    · exact .inr rfl
    · exact .inl rfl
  · rw [roundQuotient_away haway]
    split
    · exact .inl rfl
    · exact .inr rfl
  · exact .inl (roundQuotient_toward h0 htoward num den)

/-! ## The nearest whole numbers -/

/-- To nearest: no half is exceeded, and where it is met the number is even. -/
theorem roundQuotient_nearest_spec (neg : Bool) (num : Nat) (hden : 0 < den) :
    2 * (roundQuotient 0#2 neg num den * den) ≤ 2 * num + den ∧
      2 * num ≤ 2 * (roundQuotient 0#2 neg num den * den) + den ∧
      (2 * (roundQuotient 0#2 neg num den * den) = 2 * num + den ∨
        2 * num = 2 * (roundQuotient 0#2 neg num den * den) + den → roundQuotient 0#2 neg num den % 2 = 0) := by
  have hdiv := Nat.div_add_mod' num den
  have hmod := Nat.mod_lt num hden
  rw [roundQuotient_nearest]
  split
  · rw [Nat.succ_mul (num / den)]
    omega
  · omega

theorem roundQuotient_away_spec (h : awayMode rc neg = true) (num : Nat) (hden : 0 < den) :
    num ≤ roundQuotient rc neg num den * den ∧ roundQuotient rc neg num den * den < num + den := by
  have hdiv := Nat.div_add_mod' num den
  have hmod := Nat.mod_lt num hden
  rw [roundQuotient_away h]
  split
  · omega
  · rw [Nat.succ_mul]
    omega

theorem roundQuotient_toward_spec (h0 : rc ≠ 0#2) (h : awayMode rc neg = false) (num : Nat) (hden : 0 < den) :
    roundQuotient rc neg num den * den ≤ num ∧ num < roundQuotient rc neg num den * den + den := by
  have hdiv := Nat.div_add_mod' num den
  have hmod := Nat.mod_lt num hden
  rw [roundQuotient_toward h0 h]
  omega

end

/-! ## The magnitudes next to a quotient -/

section
variable {n : Nat} {f : Fmt n} {num den m k : Nat}

/-- The last of the significant bits of a magnitude is 0. -/
def Fmt.EvenLast (f : Fmt n) (u : Nat) : Prop := u / 2 ^ f.place u % 2 = 0

/-- An even number of steps is a magnitude with an even last bit, whether it has `t + 1` bits or is the power after them. -/
theorem evenLast_steps (hf : f.Wf) (hle : m ≤ 2 ^ (f.t + 1)) (hnorm : 0 < k → 2 ^ f.t ≤ m) (heven : m % 2 = 0) :
    f.EvenLast (m * 2 ^ k) := by
  unfold Fmt.EvenLast
  rcases Nat.lt_or_eq_of_le hle with hlt | rfl
  · have hplace : f.place (m * 2 ^ k) = k := by
      refine Nat.le_antisymm (Fmt.place_le ?_) ?_
      · rw [Nat.pow_add]
        exact Nat.mul_lt_mul_of_pos_right hlt (Nat.two_pow_pos _)
      · rcases Nat.eq_zero_or_pos k with rfl | hk
        · exact Nat.zero_le _
        · refine Fmt.le_place ?_
          rw [Nat.pow_add]
          exact Nat.mul_le_mul_right _ (hnorm hk)
    rw [hplace, Nat.mul_div_cancel _ (Nat.two_pow_pos _), heven]
  · have hplace : f.place (2 ^ (f.t + 1) * 2 ^ k) = k + 1 := by
      rw [← Nat.pow_add, Fmt.place, Nat.log2_two_pow]
      omega
    obtain ⟨t, ht⟩ := Nat.exists_eq_add_of_le' hf.fraction
    rw [hplace, ← Nat.pow_add, show f.t + 1 + k = t + 1 + 1 + (k + 1) by omega, Nat.pow_add,
      Nat.mul_div_cancel _ (Nat.two_pow_pos _), Nat.pow_succ]
    exact Nat.mul_mod_left ..

/-- `num / den` units lie from `m` to less than `m + 1` steps of `2^k` units; both are magnitudes of `t + 1` bits, and there is
none between them. -/
structure Bracket (f : Fmt n) (num den m k : Nat) : Prop where
  low  : m * 2 ^ k * den ≤ num
  high : num < (m + 1) * 2 ^ k * den
  bits : m < 2 ^ (f.t + 1)
  norm : 0 < k → 2 ^ f.t ≤ m

/-- The steps of the last place that `num / den` units contain. -/
def lowSteps (f : Fmt n) (num den : Nat) : Nat := num / (den * 2 ^ dropBits f num den)

theorem bracket_lowSteps (f : Fmt n) (num : Nat) (hden : 0 < den) :
    Bracket f num den (lowSteps f num den) (dropBits f num den) := by
  have hD : 0 < den * 2 ^ dropBits f num den := Nat.mul_pos hden (Nat.two_pow_pos _)
  have hlow : lowSteps f num den = num / den / 2 ^ f.place (num / den) := (Nat.div_div_eq_div_mul ..).symm
  have hcomm : ∀ j, j * 2 ^ dropBits f num den * den = j * (den * 2 ^ dropBits f num den) := fun j => by
    rw [Nat.mul_assoc, Nat.mul_comm (2 ^ _)]
  exact {
    low := by rw [hcomm]; exact Nat.div_mul_le_self _ _
    high := by rw [hcomm]; exact Nat.lt_mul_of_div_lt (Nat.lt_succ_self _) hD
    bits := by rw [hlow]; exact f.lt_of_place _
    norm := fun hk => by rw [hlow]; exact Fmt.le_of_place_pos hk }

variable (h : Bracket f num den m k)
include h

/-- Nothing that fits lies between. -/
theorem Bracket.gap {y : Nat} (hy : f.Fits y) : y ≤ m * 2 ^ k ∨ (m + 1) * 2 ^ k ≤ y := by
  obtain ⟨j, q, hj, rfl⟩ := hy
  rcases Nat.lt_or_ge q k with hq | hq
  · refine .inl (Nat.le_trans (m := 2 ^ f.t * 2 ^ k) ?_ (Nat.mul_le_mul_right _ (h.norm (by omega))))
    rw [← Nat.pow_add]
    calc j * 2 ^ q ≤ 2 ^ (f.t + 1) * 2 ^ q := Nat.mul_le_mul_right _ (Nat.le_of_lt hj)
      _ = 2 ^ (f.t + 1 + q) := (Nat.pow_add ..).symm
      _ ≤ 2 ^ (f.t + k) := Nat.pow_le_pow_right (by decide) (by omega)
  · obtain ⟨d, rfl⟩ := Nat.exists_eq_add_of_le' hq
    rw [Nat.pow_add, ← Nat.mul_assoc]
    rcases Nat.lt_or_ge m (j * 2 ^ d) with hlt | hge
    · exact .inr (Nat.mul_le_mul_right _ hlt)
    · exact .inl (Nat.mul_le_mul_right _ hge)

/-- What fits and is not above the quotient is not above the lower neighbour. -/
theorem Bracket.le_low {y : Nat} (hy : f.Fits y) (hle : y * den ≤ num) : y ≤ m * 2 ^ k :=
  (h.gap hy).resolve_right fun hge =>
    Nat.lt_irrefl _ (Nat.lt_of_lt_of_le h.high (Nat.le_trans (Nat.mul_le_mul_right den hge) hle))

end

/-! ## Rounding a quotient of units -/

section
variable {n : Nat} {f : Fmt n} {rc : BitVec 2} {neg : Bool} {num den : Nat} (hden : 0 < den)
include hden

/-- Toward zero: the greatest that fits and is not above the quotient. -/
theorem roundUnits_toward (h0 : rc ≠ 0#2) (h : awayMode rc neg = false) :
    roundUnits f rc neg num den * den ≤ num ∧ ∀ y, f.Fits y → y * den ≤ num → y ≤ roundUnits f rc neg num den := by
  have hb := bracket_lowSteps f num hden
  rw [roundUnits, roundQuotient_toward h0 h]
  exact ⟨hb.low, fun y hy => hb.le_low hy⟩

/-- Away from zero: the least that fits and is not below the quotient. -/
theorem roundUnits_away (h : awayMode rc neg = true) :
    num ≤ roundUnits f rc neg num den * den ∧ ∀ y, f.Fits y → num ≤ y * den → roundUnits f rc neg num den ≤ y := by
  have hb := bracket_lowSteps f num hden
  have hdiv := Nat.div_add_mod' num (den * 2 ^ dropBits f num den)
  rw [roundUnits, roundQuotient_away h]
  have hlow : lowSteps f num den * 2 ^ dropBits f num den * den + num % (den * 2 ^ dropBits f num den) = num := by
    rw [Nat.mul_assoc, Nat.mul_comm (2 ^ _)]
    exact hdiv
  split
  · next h0 =>
    rw [h0, Nat.add_zero] at hlow
    exact ⟨Nat.le_of_eq hlow.symm, fun y _ hle => Nat.le_of_mul_le_mul_right (hlow.trans_le hle) hden⟩
  · next h0 =>
    refine ⟨Nat.le_of_lt hb.high, fun y hy hle => (hb.gap hy).resolve_left fun hylow => ?_⟩
    have := Nat.mul_le_mul_right den hylow
    omega

/-- To nearest, as one of the two neighbours: the middle between them decides, and in the middle the even one is taken. -/
theorem roundUnits_nearest_neighbour (hf : f.Wf) :
    let lo := lowSteps f num den * 2 ^ dropBits f num den
    let hi := (lowSteps f num den + 1) * 2 ^ dropBits f num den
    let u := roundUnits f 0#2 neg num den
    (u = lo ∧ 2 * num ≤ (lo + hi) * den ∨ u = hi ∧ (lo + hi) * den ≤ 2 * num) ∧
      (2 * num = (lo + hi) * den → f.EvenLast u) := by
  intro lo hi u
  have hb := bracket_lowSteps f num hden
  have hD : 0 < den * 2 ^ dropBits f num den := Nat.mul_pos hden (Nat.two_pow_pos _)
  obtain ⟨habove, hbelow, heven⟩ := roundQuotient_nearest_spec neg num hD
  have hmul : ∀ j, j * 2 ^ dropBits f num den * den = j * (den * 2 ^ dropBits f num den) := fun j => by
    rw [Nat.mul_assoc, Nat.mul_comm (2 ^ _)]
  have hmid : (lo + hi) * den =
      2 * (lowSteps f num den * (den * 2 ^ dropBits f num den)) + den * 2 ^ dropBits f num den := by
    rw [Nat.add_mul, hmul, hmul, Nat.succ_mul (lowSteps f num den)]
    omega
  have hq : roundQuotient 0#2 neg num (den * 2 ^ dropBits f num den) = lowSteps f num den ∨
      roundQuotient 0#2 neg num (den * 2 ^ dropBits f num den) = lowSteps f num den + 1 := roundQuotient_cases ..
  have hu : u = roundQuotient 0#2 neg num (den * 2 ^ dropBits f num den) * 2 ^ dropBits f num den := rfl
  rw [hmid]
  rcases hq with hq | hq
  · rw [hq] at hu habove hbelow heven
    refine ⟨.inl ⟨hu, by omega⟩, fun htie => hu ▸ ?_⟩
    exact evenLast_steps hf (Nat.le_of_lt hb.bits) hb.norm (heven (.inr htie))
  · rw [hq, Nat.succ_mul (lowSteps f num den)] at habove hbelow heven
    rw [hq] at hu
    refine ⟨.inr ⟨hu, by omega⟩, fun htie => hu ▸ ?_⟩
    exact evenLast_steps hf hb.bits (fun hk => Nat.le_succ_of_le (hb.norm hk)) (heven (.inl (by omega)))

/-- To nearest: the middle between the result and another that fits lies beyond the quotient; a tie has an even last bit. -/
theorem roundUnits_nearest (hf : f.Wf) :
    ∀ y, f.Fits y → let u := roundUnits f 0#2 neg num den
      (u < y → 2 * num ≤ (u + y) * den) ∧ (y < u → (u + y) * den ≤ 2 * num) ∧
        (u ≠ y → 2 * num = (u + y) * den → f.EvenLast u) := by
  intro y hy u
  have hb := bracket_lowSteps f num hden
  obtain ⟨hside, htie⟩ := roundUnits_nearest_neighbour (neg := neg) (num := num) hden hf
  have hlohi : lowSteps f num den * 2 ^ dropBits f num den <
      (lowSteps f num den + 1) * 2 ^ dropBits f num den :=
    Nat.mul_lt_mul_of_pos_right (Nat.lt_succ_self _) (Nat.two_pow_pos _)
  have hlow := hb.low
  have hhigh := hb.high
  have hgap := hb.gap hy
  generalize hlo : lowSteps f num den * 2 ^ dropBits f num den = lo at *
  generalize hhi : (lowSteps f num den + 1) * 2 ^ dropBits f num den = hi at *
  have hmul : ∀ {a b : Nat}, a ≤ b → a * den ≤ b * den := fun h => Nat.mul_le_mul_right den h
  have hmul' : ∀ {a b : Nat}, a < b → a * den < b * den := fun h => Nat.mul_lt_mul_of_pos_right h hden
  simp only [Nat.add_mul] at *
  rcases hside with ⟨hu, hmid⟩ | ⟨hu, hmid⟩
  · have huv : u = lo := hu
    rw [huv]
    refine ⟨fun hlt => ?_, fun hlt => ?_, fun hne heq => huv ▸ htie ?_⟩
    · have := hmul (hgap.resolve_left (by omega))
      omega
    · have := hmul' hlt
      omega
    · rcases hgap with hle | hge
      · have := hmul' (Nat.lt_of_le_of_ne hle (Ne.symm (huv ▸ hne)))
        omega
      · have := hmul hge
        omega
  · have huv : u = hi := hu
    rw [huv]
    refine ⟨fun hlt => ?_, fun hlt => ?_, fun hne heq => huv ▸ htie ?_⟩
    · have := hmul' hlt
      omega
    · have := hmul (hgap.resolve_right (by omega))
      omega
    · rcases hgap with hle | hge
      · have := hmul hle
        omega
      · have := hmul' (Nat.lt_of_le_of_ne hge (huv ▸ hne))
        omega

/-- Rounding does not pass a magnitude that fits: not downwards. -/
theorem le_roundUnits (hf : f.Wf) {y : Nat} (hy : f.Fits y) (h : y * den ≤ num) : y ≤ roundUnits f rc neg num den := by
  rcases mode_cases rc neg with rfl | haway | ⟨h0, htoward⟩
  · by_contra hlt
    have hmid := (roundUnits_nearest (neg := neg) (num := num) hden hf y hy).1 (by omega)
    have hless := Nat.mul_lt_mul_of_pos_right (Nat.lt_of_not_le hlt) hden
    rw [Nat.add_mul] at hmid
    omega
  · exact Nat.le_of_mul_le_mul_right (Nat.le_trans h (roundUnits_away hden haway).1) hden
  · exact (roundUnits_toward hden h0 htoward).2 y hy h

/-- Nor upwards. -/
theorem roundUnits_le (hf : f.Wf) {y : Nat} (hy : f.Fits y) (h : num ≤ y * den) : roundUnits f rc neg num den ≤ y := by
  rcases mode_cases rc neg with rfl | haway | ⟨h0, htoward⟩
  · by_contra hlt
    have hmid := (roundUnits_nearest (neg := neg) (num := num) hden hf y hy).2.1 (by omega)
    have hless := Nat.mul_lt_mul_of_pos_right (Nat.lt_of_not_le hlt) hden
    rw [Nat.add_mul] at hmid
    omega
  · exact (roundUnits_away hden haway).2 y hy h
  · exact Nat.le_of_mul_le_mul_right (Nat.le_trans (roundUnits_toward hden h0 htoward).1 h) hden

/-- What fits is rounded to itself. -/
theorem roundUnits_of_fits (hf : f.Wf) {y : Nat} (hy : f.Fits y) (h : num = y * den) :
    roundUnits f rc neg num den = y :=
  Nat.le_antisymm (roundUnits_le hden hf hy h.le) (le_roundUnits hden hf hy h.ge)

/-- A rounded magnitude has `t + 1` bits. -/
theorem fits_roundUnits : f.Fits (roundUnits f rc neg num den) := by
  have hb := bracket_lowSteps f num hden
  have hq : roundQuotient rc neg num (den * 2 ^ dropBits f num den) ≤ lowSteps f num den + 1 := by
    rcases roundQuotient_cases rc neg num (den * 2 ^ dropBits f num den) with h | h
    · exact h.trans_le (Nat.le_succ _)
    · exact h.le
  exact (Fmt.fits_of_le (Nat.le_trans hq hb.bits)).mul_two_pow _

end

end Sys2Proof.Machine
end

section
/-! SUPPORT. A rounded result as a number: the pattern of a rounded magnitude is the one that the statements' `RoundsTo` names
(41_fp_numerics.md rule R273). -/

namespace Sys2Proof.Machine

open Sys2Proof.Spec

/-! ## A sign -/

/-- An integer with its sign turned, if `neg`. -/
def signedBy (neg : Bool) (x : Int) : Int := if neg then -x else x

@[simp] theorem signedBy_false (x : Int) : signedBy false x = x := rfl

@[simp] theorem signedBy_true (x : Int) : signedBy true x = -x := rfl

@[simp] theorem signedBy_signedBy (neg : Bool) (x : Int) : signedBy neg (signedBy neg x) = x := by cases neg <;> simp

@[simp] theorem natAbs_signedBy (neg : Bool) (x : Int) : (signedBy neg x).natAbs = x.natAbs := by cases neg <;> simp

@[simp] theorem abs_signedBy (neg : Bool) (x : Int) : |signedBy neg x| = |x| := by cases neg <;> simp

@[simp] theorem signedBy_inj {neg : Bool} {x y : Int} : signedBy neg x = signedBy neg y ↔ x = y := by cases neg <;> simp

theorem signedBy_mul_right (neg : Bool) (x y : Int) : signedBy neg x * y = signedBy neg (x * y) := by
  cases neg <;> simp

theorem signedBy_mul (a b : Bool) (x y : Int) : signedBy a x * signedBy b y = signedBy (a != b) (x * y) := by
  cases a <;> cases b <;> simp

theorem signedBy_sub (neg : Bool) (x y : Int) : signedBy neg x - signedBy neg y = signedBy neg (x - y) := by
  cases neg
  · rfl
  · simp only [signedBy_true]
    ring

theorem signedBy_lt_zero {neg : Bool} {x : Int} (h : 0 < x) : signedBy neg x < 0 ↔ neg = true := by
  cases neg
  · simp [h.le]
  · simp [h]

theorem signedBy_pos {neg : Bool} {x : Int} (h : 0 < x) : 0 < signedBy neg x ↔ neg = false := by
  cases neg
  · simp [h]
  · simp [h.le]

/-- Every integer is its magnitude with its sign. -/
theorem signedBy_natAbs (x : Int) : signedBy (decide (x < 0)) x.natAbs = x := by
  unfold signedBy
  split
  · next h =>
    have := of_decide_eq_true h
    omega
  · next h =>
    have := mt decide_eq_true h
    omega

section
variable {n : Nat} {f : Fmt n}

theorem Fmt.value_eq (f : Fmt n) (x : BitVec n) : f.value x = signedBy (f.neg x) (f.units x) := rfl

@[simp] theorem Fmt.natAbs_value (f : Fmt n) (x : BitVec n) : (f.value x).natAbs = f.units x := by
  rw [f.value_eq, natAbs_signedBy, Int.natAbs_natCast]

@[simp] theorem Fmt.abs_value (f : Fmt n) (x : BitVec n) : |f.value x| = (f.units x : Int) := by
  rw [Int.abs_eq_natAbs, f.natAbs_value]

theorem value_of_nonneg {y : BitVec n} (h : 0 ≤ f.value y) : f.value y = f.units y :=
  (abs_of_nonneg h).symm.trans (f.abs_value _)

theorem Fmt.Wf.value_pack (hf : f.Wf) (neg : Bool) {u : Nat} (hfits : f.Fits u) (h : u ≤ f.maxUnits) :
    f.value (f.pack neg u) = signedBy neg u := by
  rw [Fmt.value_eq, hf.neg_pack neg h, hf.units_pack neg hfits h]

/-! ## Nearest and directed, among all numbers of the format -/

/-- `a` is as near to `x` as `b` if the middle between them lies beyond `x`, seen from `a`; equally near only in the middle. -/
theorem abs_sub_le_of_middle {a b x : Int} (hab : a < b → 2 * x ≤ a + b) (hba : b < a → a + b ≤ 2 * x) :
    |a - x| ≤ |b - x| ∧ (|a - x| = |b - x| → a ≠ b → 2 * x = a + b) := by
  rcases abs_cases (a - x) with ⟨ha, _⟩ | ⟨ha, _⟩ <;> rcases abs_cases (b - x) with ⟨hb, _⟩ | ⟨hb, _⟩ <;> omega

section
variable {rc : BitVec 2} {neg : Bool} {num den : Nat} (hden : 0 < den)
include hden

theorem roundUnits_nearest_mul_le (hf : f.Wf) : roundUnits f 0#2 neg num den * den ≤ 2 * num := by
  rcases Nat.eq_zero_or_pos (roundUnits f 0#2 neg num den) with h0 | hpos
  · rw [h0, Nat.zero_mul]
    exact Nat.zero_le _
  · exact (roundUnits_nearest hden hf 0 f.fits_zero).2.1 hpos

theorem roundUnits_nearest_int (hf : f.Wf) (hnum : 0 < num) (y : Int) (hy : f.Fits y.natAbs) :
    |(roundUnits f 0#2 neg num den : Int) * den - num| ≤ |y * den - num| ∧
      (|(roundUnits f 0#2 neg num den : Int) * den - num| = |y * den - num| →
        y ≠ roundUnits f 0#2 neg num den → f.EvenLast (roundUnits f 0#2 neg num den)) := by
  obtain ⟨habove, hbelow, htie⟩ := roundUnits_nearest (neg := neg) (num := num) hden hf _ hy
  have hsmall : ((roundUnits f 0#2 neg num den * den : Nat) : Int) ≤ (2 * num : Nat) :=
    Int.ofNat_le.mpr (roundUnits_nearest_mul_le hden hf)
  push_cast at hsmall
  have hpos : (0 : Int) ≤ roundUnits f 0#2 neg num den * (den : Int) := Int.natCast_nonneg (_ * _)
  generalize roundUnits f 0#2 neg num den = u at *
  rcases lt_or_ge y 0 with hneg | hnonneg
  · have hlt : |(u : Int) * den - num| < |y * den - num| := by
      have := Int.mul_neg_of_neg_of_pos hneg (Int.natCast_pos.mpr hden)
      rw [abs_of_neg (by omega : y * den - num < 0), abs_lt]
      omega
    exact ⟨hlt.le, fun heq => absurd heq hlt.ne⟩
  · lift y to Nat using hnonneg
    rw [Int.natAbs_natCast] at habove hbelow htie
    zify at habove hbelow htie
    rw [Int.add_mul] at habove hbelow htie
    have hlt : ∀ {a b : Nat}, (a : Int) * den < b * den → (a : Int) < b := fun h => lt_of_mul_lt_mul_right h (by omega)
    obtain ⟨hle, hmid⟩ := abs_sub_le_of_middle (fun h => habove (hlt h)) (fun h => hbelow (hlt h))
    refine ⟨hle, fun heq hne => htie (Ne.symm hne) (hmid heq fun hc => hne ?_)⟩
    exact (Int.eq_of_mul_eq_mul_right (by omega) hc).symm

theorem roundUnits_toward_int (h0 : rc ≠ 0#2) (h : awayMode rc neg = false) (y : Int) (hy : f.Fits y.natAbs)
    (hle : y * den ≤ num) : y ≤ roundUnits f rc neg num den := by
  rcases lt_or_ge y 0 with hneg | hnonneg
  · omega
  · lift y to Nat using hnonneg
    exact Int.ofNat_le.mpr ((roundUnits_toward hden h0 h).2 y hy (by exact_mod_cast hle))

theorem roundUnits_away_int (hnum : 0 < num) (h : awayMode rc neg = true) (y : Int) (hy : f.Fits y.natAbs)
    (hle : num ≤ y * den) : roundUnits f rc neg num den ≤ y := by
  rcases lt_or_ge y 0 with hneg | hnonneg
  · have := Int.mul_neg_of_neg_of_pos hneg (Int.natCast_pos.mpr hden)
    omega
  · lift y to Nat using hnonneg
    exact Int.ofNat_le.mpr ((roundUnits_away hden h).2 y hy (by exact_mod_cast hle))

end

theorem Fmt.fits_value (f : Fmt n) (x : BitVec n) : f.Fits (f.value x).natAbs := by
  rw [f.natAbs_value]
  exact f.fits_units x

/-- A number of the format is one whose magnitude fits, with any sign turned. -/
theorem Fmt.value_eq_signedBy (f : Fmt n) (neg : Bool) (x : BitVec n) :
    ∃ y : Int, f.Fits y.natAbs ∧ f.value x = signedBy neg y := by
  refine ⟨signedBy neg (f.value x), ?_, (signedBy_signedBy ..).symm⟩
  rw [natAbs_signedBy]
  exact f.fits_value x

theorem Fmt.Wf.frac_pack_of_evenLast (hf : f.Wf) (neg : Bool) {u : Nat} (hmax : u ≤ f.maxUnits) (h : f.EvenLast u) :
    f.frac (f.pack neg u) % 2 = 0 := by
  have heven : 2 ∣ 2 ^ f.t := Dvd.intro_left _ (Nat.two_pow_pred_mul_two (by have := hf.fraction; omega))
  rw [hf.frac_pack neg hmax, Nat.mod_mod_of_dvd _ heven]
  exact h

/-- The pattern of a rounded magnitude, if it is finite, is what R273 rounds the quotient to. -/
theorem roundsTo_pack {rc : BitVec 2} {neg : Bool} {num den : Nat} (hf : f.Wf) (hnum : 0 < num) (hden : 0 < den)
    (hmax : roundUnits f rc neg num den ≤ f.maxUnits) :
    RoundsTo f rc (signedBy neg num) den (f.pack neg (roundUnits f rc neg num den)) := by
  have hfits : f.Fits (roundUnits f rc neg num den) := fits_roundUnits hden
  unfold RoundsTo
  rw [hf.value_pack neg hfits hmax, signedBy_mul_right]
  refine ⟨hf.finite_pack neg hmax, ?nearest, ?down, ?up, ?zero⟩
  case nearest =>
    rintro rfl y -
    obtain ⟨v, hv, hy⟩ := f.value_eq_signedBy neg y
    rw [hy, signedBy_mul_right, signedBy_sub, signedBy_sub, abs_signedBy, abs_signedBy, Ne, signedBy_inj]
    obtain ⟨hle, htie⟩ := roundUnits_nearest_int (neg := neg) hden hf hnum v hv
    exact ⟨hle, fun heq hne => hf.frac_pack_of_evenLast neg hmax (htie heq hne)⟩
  case down =>
    rintro rfl
    cases neg with
    | false =>
      have hmode : awayMode 1#2 false = false := rfl
      refine ⟨Int.ofNat_le.mpr (roundUnits_toward hden (by decide) hmode).1, fun y _ hle => ?_⟩
      exact roundUnits_toward_int hden (by decide) hmode _ (f.fits_value y) hle
    | true =>
      have hmode : awayMode 1#2 true = true := rfl
      refine ⟨Int.neg_le_neg (Int.ofNat_le.mpr (roundUnits_away hden hmode).1), fun y _ hle => ?_⟩
      obtain ⟨v, hv, hy⟩ := f.value_eq_signedBy true y
      rw [hy, signedBy_mul_right] at hle
      rw [hy]
      exact Int.neg_le_neg (roundUnits_away_int hden hnum hmode v hv (Int.neg_le_neg_iff.mp hle))
  case up =>
    rintro rfl
    cases neg with
    | false =>
      have hmode : awayMode 2#2 false = true := rfl
      refine ⟨Int.ofNat_le.mpr (roundUnits_away hden hmode).1, fun y _ hle => ?_⟩
      exact roundUnits_away_int hden hnum hmode _ (f.fits_value y) hle
    | true =>
      have hmode : awayMode 2#2 true = false := rfl
      refine ⟨Int.neg_le_neg (Int.ofNat_le.mpr (roundUnits_toward hden (by decide) hmode).1), fun y _ hle => ?_⟩
      obtain ⟨v, hv, hy⟩ := f.value_eq_signedBy true y
      rw [hy, signedBy_mul_right] at hle
      rw [hy]
      exact Int.neg_le_neg (roundUnits_toward_int hden (by decide) hmode v hv (Int.neg_le_neg_iff.mp hle))
  case zero =>
    rintro rfl
    obtain ⟨hle, hgreatest⟩ := roundUnits_toward (f := f) (num := num) (rc := 3#2) (neg := neg) hden (by decide) rfl
    simp only [abs_signedBy, Nat.abs_cast, signedBy_mul, bne_self_eq_false, signedBy_false]
    refine ⟨by exact_mod_cast hle, Int.mul_nonneg (Int.natCast_nonneg _) (Int.natCast_nonneg _), fun y _ hy _ => ?_⟩
    rw [f.abs_value] at hy ⊢
    exact Int.ofNat_le.mpr (hgreatest _ (f.fits_units y) (by exact_mod_cast hy))

end

end Sys2Proof.Machine
end

section
/-! SUPPORT. What the rounding of a non-zero result delivers and detects: the statements' conditions for overflow, for a tiny
result and for an exact one are the model's, and with them `deliver` is what R284 to R286 say (41_fp_numerics.md). -/

namespace Sys2Proof.Machine

open Sys2Proof.Spec

section
variable {n : Nat} {f : Fmt n} {rc : BitVec 2} {neg : Bool} {num den : Nat}

/-! ## Modes, by the sign of the exact result -/

theorem away_iff (hnum : 0 < num) : Away rc (signedBy neg num) ↔ awayMode rc neg = true := by
  have hpos : (0 : Int) < num := Int.natCast_pos.mpr hnum
  rw [awayMode_iff, Away, signedBy_lt_zero hpos, signedBy_pos hpos]

/-! ## Overflow (R284) -/

theorem largest_eq (f : Fmt n) : largest f = (f.maxUnits : Int) := by
  have htop : f.top - 2 = 2 ^ f.w - 3 := by rw [Fmt.top, Nat.sub_sub]
  have hpos := Nat.two_pow_pos (f.t + 1)
  rw [largest, Fmt.maxUnits, htop]
  push_cast [Nat.cast_sub hpos]
  rfl

theorem lastPlace_eq (f : Fmt n) : lastPlace f = ((2 ^ f.maxPlace : Nat) : Int) := by
  have htop : f.maxPlace = 2 ^ f.w - 3 := by rw [Fmt.maxPlace, Fmt.top, Nat.sub_sub]
  rw [lastPlace, htop]
  push_cast
  rfl

/-- The greatest finite magnitude has an odd last bit. -/
theorem maxUnits_not_evenLast (f : Fmt n) : ¬f.EvenLast f.maxUnits := by
  have hlt := Nat.two_pow_pos (f.t + 1)
  have hplace : f.place f.maxUnits = f.maxPlace := by
    refine Nat.le_antisymm (Fmt.place_le (Fmt.lt_of_le_maxUnits (Nat.le_refl _))) (Fmt.le_place ?_)
    have hadd := f.maxUnits_add
    have hle : 2 ^ f.maxPlace ≤ 2 ^ (f.t + f.maxPlace) := Nat.pow_le_pow_right (by decide) (by omega)
    rw [show f.t + 1 + f.maxPlace = f.t + f.maxPlace + 1 by omega, Nat.pow_succ] at hadd
    omega
  rw [Fmt.EvenLast, hplace, Fmt.maxUnits, ← Fmt.maxPlace, Nat.mul_div_cancel _ (Nat.two_pow_pos _)]
  rw [Nat.pow_succ] at hlt ⊢
  omega

theorem Fmt.fits_after_maxUnits (f : Fmt n) : f.Fits (f.maxUnits + 2 ^ f.maxPlace) := by
  rw [f.maxUnits_add]
  exact f.fits_two_pow _

section
variable (hden : 0 < den)
include hden

theorem maxUnits_lt_iff_nearest (hf : f.Wf) :
    f.maxUnits < roundUnits f 0#2 neg num den ↔ (2 * f.maxUnits + 2 ^ f.maxPlace) * den ≤ 2 * num := by
  have hpos := Nat.two_pow_pos f.maxPlace
  have hsum : 2 * f.maxUnits + 2 ^ f.maxPlace = f.maxUnits + (f.maxUnits + 2 ^ f.maxPlace) := by omega
  obtain ⟨-, hbelow, -⟩ := roundUnits_nearest (neg := neg) (num := num) hden hf _ f.fits_maxUnits
  obtain ⟨habove, -, htie⟩ := roundUnits_nearest (neg := neg) (num := num) hden hf _ f.fits_after_maxUnits
  have hfits : f.Fits (roundUnits f 0#2 neg num den) := fits_roundUnits hden
  rw [hsum]
  constructor
  · intro h
    have hge := hfits.le_maxUnits_or.resolve_left (by omega)
    exact Nat.le_trans (Nat.mul_le_mul_right den (by omega)) (hbelow h)
  · intro h
    by_contra hle
    have hmid := habove (by omega)
    have hsame := Nat.mul_le_mul_right den (show roundUnits f 0#2 neg num den + (f.maxUnits + 2 ^ f.maxPlace) ≤
      f.maxUnits + (f.maxUnits + 2 ^ f.maxPlace) by omega)
    have heven := htie (by omega) (by omega)
    have heq : roundUnits f 0#2 neg num den + (f.maxUnits + 2 ^ f.maxPlace) =
        f.maxUnits + (f.maxUnits + 2 ^ f.maxPlace) := Nat.eq_of_mul_eq_mul_right hden (by omega)
    rw [Nat.add_right_cancel heq] at heven
    exact maxUnits_not_evenLast f heven

theorem maxUnits_lt_iff_away (h : awayMode rc neg = true) :
    f.maxUnits < roundUnits f rc neg num den ↔ f.maxUnits * den < num := by
  obtain ⟨hle, hleast⟩ := roundUnits_away (f := f) (num := num) hden h
  constructor
  · exact fun hlt => Nat.lt_of_not_le fun hc => Nat.not_le_of_lt hlt (hleast _ f.fits_maxUnits hc)
  · exact fun hlt => Nat.lt_of_mul_lt_mul_right (Nat.lt_of_lt_of_le hlt hle)

theorem maxUnits_lt_iff_toward (h0 : rc ≠ 0#2) (h : awayMode rc neg = false) :
    f.maxUnits < roundUnits f rc neg num den ↔ (f.maxUnits + 2 ^ f.maxPlace) * den ≤ num := by
  obtain ⟨hle, hgreatest⟩ := roundUnits_toward (f := f) (num := num) hden h0 h
  have hfits : f.Fits (roundUnits f rc neg num den) := fits_roundUnits hden
  have hpos := Nat.two_pow_pos f.maxPlace
  constructor
  · intro hlt
    have hge := hfits.le_maxUnits_or.resolve_left (by omega)
    exact Nat.le_trans (Nat.mul_le_mul_right den hge) hle
  · intro hge
    have := hgreatest _ f.fits_after_maxUnits hge
    omega

/-- R284's condition is the model's: the rounded magnitude, the exponent unbounded, is above the greatest finite one. -/
theorem overflows_iff (hf : f.Wf) (hnum : 0 < num) :
    Overflows f rc (signedBy neg num) den ↔ f.maxUnits < roundUnits f rc neg num den := by
  rw [Overflows, away_iff hnum, largest_eq, lastPlace_eq, abs_signedBy, Nat.abs_cast]
  norm_cast
  rcases mode_cases rc neg with rfl | haway | ⟨h0, htoward⟩
  · rw [maxUnits_lt_iff_nearest hden hf, awayMode_nearest]
    simp
  · have h0 : rc ≠ 0#2 := by rintro rfl; cases haway
    rw [maxUnits_lt_iff_away hden haway]
    simp [haway, h0]
  · rw [maxUnits_lt_iff_toward hden h0 htoward]
    simp [htoward, h0]

end

/-! ## Tiny results (R285) -/

theorem tiny_eq_true :
    tiny f rc neg num den = true ↔ num < 2 ^ f.t * den ∧ roundQuotient rc neg (2 * num) den < 2 ^ f.t * 2 := by
  rw [tiny, Bool.and_eq_true, decide_eq_true_eq, decide_eq_true_eq, Nat.mul_comm den, Nat.pow_succ]

/-- A tiny result stays below the greatest finite magnitude. -/
theorem roundUnits_le_of_tiny (h : tiny f rc neg num den = true) : roundUnits f rc neg num den ≤ 2 ^ f.t := by
  obtain ⟨hlt, -⟩ := tiny_eq_true.mp h
  have hq : num / den < 2 ^ f.t := Nat.div_lt_of_lt_mul (Nat.mul_comm _ den ▸ hlt)
  have hdrop : dropBits f num den = 0 := Nat.le_zero.mp (Fmt.place_le (Nat.lt_of_lt_of_le hq
    (Nat.pow_le_pow_right (by decide) (by omega))))
  rw [roundUnits, hdrop, Nat.pow_zero, Nat.mul_one, Nat.mul_one]
  rcases roundQuotient_cases rc neg num den with h | h <;> omega

section
variable (hden : 0 < den)
include hden

theorem tiny_iff_nearest : tiny f 0#2 neg num den = true ↔ 4 * num + den < 4 * (2 ^ f.t * den) := by
  obtain ⟨habove, hbelow, heven⟩ := roundQuotient_nearest_spec neg (2 * num) hden
  rw [tiny_eq_true]
  generalize roundQuotient 0#2 neg (2 * num) den = m at *
  constructor
  · rintro ⟨-, hm⟩
    have hmul : (m + 1) * den ≤ 2 ^ f.t * 2 * den := Nat.mul_le_mul_right den hm
    rw [Nat.succ_mul m, Nat.mul_right_comm] at hmul
    refine Nat.lt_of_le_of_ne (by omega) fun heq => ?_
    have hodd : m % 2 = 0 := heven (.inr (by omega))
    have : (m + 1) * den = 2 ^ f.t * 2 * den := by
      rw [Nat.succ_mul m, Nat.mul_right_comm]
      omega
    have := Nat.eq_of_mul_eq_mul_right hden this
    omega
  · refine fun h => ⟨by omega, Nat.lt_of_not_le fun hge => ?_⟩
    have hmul := Nat.mul_le_mul_right den hge
    rw [Nat.mul_right_comm] at hmul
    omega

theorem tiny_iff_away (h : awayMode rc neg = true) :
    tiny f rc neg num den = true ↔ 2 * num + den ≤ 2 * (2 ^ f.t * den) := by
  obtain ⟨hle, hlt⟩ := roundQuotient_away_spec h (2 * num) hden
  rw [tiny_eq_true]
  generalize roundQuotient rc neg (2 * num) den = m at *
  constructor
  · rintro ⟨-, hm⟩
    have hmul : (m + 1) * den ≤ 2 ^ f.t * 2 * den := Nat.mul_le_mul_right den hm
    rw [Nat.succ_mul m, Nat.mul_right_comm] at hmul
    omega
  · refine fun h => ⟨by omega, Nat.lt_of_not_le fun hge => ?_⟩
    have hmul := Nat.mul_le_mul_right den hge
    rw [Nat.mul_right_comm] at hmul
    omega

theorem tiny_iff_toward (h0 : rc ≠ 0#2) (h : awayMode rc neg = false) :
    tiny f rc neg num den = true ↔ num < 2 ^ f.t * den := by
  obtain ⟨hle, -⟩ := roundQuotient_toward_spec h0 h (2 * num) hden
  rw [tiny_eq_true]
  refine ⟨fun h => h.1, fun h => ⟨h, Nat.lt_of_not_le fun hge => ?_⟩⟩
  have hmul := Nat.mul_le_mul_right den hge
  rw [Nat.mul_right_comm] at hmul
  omega

/-- R285's condition is the model's. -/
theorem tiny_iff (hnum : 0 < num) : Tiny f rc (signedBy neg num) den ↔ tiny f rc neg num den = true := by
  have hnear : 4 * (num : Int) < (2 ^ (f.t + 2) - 1) * den ↔ 4 * num + den < 4 * (2 ^ f.t * den) := by
    zify
    rw [pow_add]
    constructor <;> intro h <;> linarith
  have haway : 2 * (num : Int) ≤ (2 ^ (f.t + 1) - 1) * den ↔ 2 * num + den ≤ 2 * (2 ^ f.t * den) := by
    zify
    rw [pow_add]
    constructor <;> intro h <;> linarith
  have htoward : (num : Int) < 2 ^ f.t * den ↔ num < 2 ^ f.t * den := by norm_cast
  rw [Tiny, away_iff hnum, abs_signedBy, Nat.abs_cast, hnear, haway, htoward]
  rcases mode_cases rc neg with rfl | hmode | ⟨h0, hmode⟩
  · simp [tiny_iff_nearest hden, awayMode_nearest]
  · have h0 : rc ≠ 0#2 := by rintro rfl; cases hmode
    simp [tiny_iff_away hden hmode, hmode, h0]
  · simp [tiny_iff_toward hden h0 hmode, hmode, h0]

/-- A result that is not tiny is rounded to a normal number. -/
theorem le_roundUnits_of_not_tiny (hf : f.Wf) (h : tiny f rc neg num den = false) :
    2 ^ f.t ≤ roundUnits f rc neg num den := by
  by_contra hlt
  rw [← Bool.not_eq_true] at h
  have hmul : (roundUnits f rc neg num den + 1) * den ≤ 2 ^ f.t * den := Nat.mul_le_mul_right den (by omega)
  rw [Nat.succ_mul (roundUnits f rc neg num den)] at hmul
  rcases mode_cases rc neg with rfl | haway | ⟨h0, htoward⟩
  · rw [tiny_iff_nearest hden] at h
    obtain ⟨habove, -, -⟩ := roundUnits_nearest (neg := neg) (num := num) hden hf _ (f.fits_two_pow f.t)
    have := habove (by omega)
    rw [Nat.add_mul] at this
    omega
  · rw [tiny_iff_away hden haway] at h
    have := (roundUnits_away (f := f) (num := num) hden haway).1
    omega
  · rw [tiny_iff_toward hden h0 htoward] at h
    have := (roundUnits_toward (f := f) (num := num) hden h0 htoward).2 _ (f.fits_two_pow f.t) (by omega)
    omega

/-! ## Exact results (R286) -/

/-- Where the exponent is unbounded, the rounding is exact just where `t + 1` bits hold the exact result. -/
theorem short_iff (hf : f.Wf) :
    Short f (signedBy neg num) den ↔ roundUnits f rc neg num den * den = num := by
  rw [Short, abs_signedBy, Nat.abs_cast]
  norm_cast
  constructor
  · rintro ⟨m, q, hm, heq⟩
    rw [roundUnits_of_fits hden hf ⟨m, q, hm, rfl⟩ heq, heq]
  · intro heq
    obtain ⟨m, q, hm, hu⟩ := fits_roundUnits (f := f) (rc := rc) (neg := neg) (num := num) hden
    exact ⟨m, q, hm, by rw [← hu, heq]⟩

end

/-! ## What is delivered (R284 to R286) -/

variable {mx : Dword} {c : BitVec 6}

/-- Is the rounding of `num / den` inexact, the exponent unbounded? -/
def inexactUnits (f : Fmt n) (rc : BitVec 2) (neg : Bool) (num den : Nat) : Bool :=
  decide (roundUnits f rc neg num den * den ≠ num)

/-- Is a result flushed to a zero (R285)? -/
def flushes (f : Fmt n) (mx : Dword) (neg : Bool) (num den : Nat) : Bool :=
  tiny f (mxRc mx) neg num den && mxUm mx && mxFz mx

theorem deliver_of_overflow (h : f.maxUnits < roundUnits f (mxRc mx) neg num den) :
    deliver f mx neg num den c =
      ⟨overflowBits f (mxRc mx) neg,
        c ||| condO ||| condIf (mxOm mx || inexactUnits f (mxRc mx) neg num den) condP⟩ := if_pos h

theorem deliver_of_flushes (h : flushes f mx neg num den = true) :
    deliver f mx neg num den c = ⟨f.zero neg, c ||| condU ||| condP⟩ := by
  simp only [flushes, Bool.and_eq_true] at h
  obtain ⟨⟨htiny, hum⟩, hfz⟩ := h
  have hmax := Nat.le_trans (roundUnits_le_of_tiny htiny) f.two_pow_le_maxUnits
  simp [deliver, htiny, hum, hfz, Nat.not_lt.mpr hmax]

theorem deliver_of_rounded (hmax : roundUnits f (mxRc mx) neg num den ≤ f.maxUnits)
    (h : flushes f mx neg num den = false) :
    deliver f mx neg num den c =
      ⟨f.pack neg (roundUnits f (mxRc mx) neg num den),
        c ||| condIf (tiny f (mxRc mx) neg num den && (!mxUm mx || inexactUnits f (mxRc mx) neg num den)) condU |||
          condIf (inexactUnits f (mxRc mx) neg num den) condP⟩ := by
  unfold flushes at h
  unfold deliver inexactUnits
  rw [if_neg (Nat.not_lt.mpr hmax)]
  cases htiny : tiny f (mxRc mx) neg num den with
  | false => simp [condIf]
  | true =>
    cases hum : mxUm mx with
    | false => simp [condIf]
    | true =>
      have hfz : mxFz mx = false := by simpa [htiny, hum] using h
      by_cases hinexact : roundUnits f (mxRc mx) neg num den * den = num <;> simp [condIf, hfz, hinexact, BitVec.or_assoc]

/-- The masked response to overflow is the list of R284. -/
theorem overflowBits_eq (hf : f.Wf) : overflowBits f rc neg = overflowed f rc neg := by
  have hpos : 1 ≤ f.top * 2 ^ f.t := Nat.mul_pos (by have := hf.top_pos; omega) (Nat.two_pow_pos _)
  have hmax : f.maxFinite neg = largestOf f neg := congrArg (BitVec.ofNat n) (Nat.add_sub_assoc hpos _).symm
  have hinf : f.inf neg = infinityOf f neg := rfl
  rcases rc_cases rc with rfl | rfl | rfl | rfl
  · exact hinf
  · cases neg
    · exact hmax
    · exact hinf
  · cases neg
    · exact hinf
    · exact hmax
  · exact hmax

section
variable (hden : 0 < den) (hnum : 0 < num)
include hden hnum

theorem flushes_iff : Flushes f mx (signedBy neg num) den ↔ flushes f mx neg num den = true := by
  rw [Flushes, flushes, Bool.and_eq_true, Bool.and_eq_true, and_assoc]
  exact and_congr_left' (tiny_iff hden hnum)

/-- What a non-zero result becomes, for any of the operations. -/
theorem resultRounds_deliver (hf : f.Wf) :
    ResultRounds f mx (signedBy neg num) den (deliver f mx neg num den c) := by
  have hover : Overflows f (mx.extractLsb' 13 2) (signedBy neg num) den ↔ _ := overflows_iff hden hf hnum
  have hflush : Flushes f mx (signedBy neg num) den ↔ _ := flushes_iff hden hnum
  have hneg : signedBy neg num < 0 ↔ neg = true := signedBy_lt_zero (Int.natCast_pos.mpr hnum)
  have hsign : decide (signedBy neg num < 0) = neg := by simp [hneg]
  refine ⟨fun ho hfl => ?_, fun hfl => ?_, fun ho _ => ?_⟩
  · have hmax := Nat.le_of_not_lt (mt hover.mpr ho)
    rw [deliver_of_rounded hmax (Bool.eq_false_iff.mpr (mt hflush.mpr hfl)), hneg]
    exact ⟨roundsTo_pack hf hnum hden hmax, Bool.eq_iff_iff.mp (hf.neg_pack neg hmax)⟩
  · rw [deliver_of_flushes (hflush.mp hfl), hsign]
    exact congrArg (BitVec.ofNat n) (Nat.add_zero _)
  · rw [deliver_of_overflow (hover.mp ho), hsign]
    exact overflowBits_eq hf

/-- All that a non-zero result detects, for any of the operations. -/
theorem resultDetects_deliver (hf : f.Wf) :
    ResultDetects f mx (signedBy neg num) den c (deliver f mx neg num den c) := by
  have hover : Overflows f (mx.extractLsb' 13 2) (signedBy neg num) den ↔ _ := overflows_iff hden hf hnum
  have hflush : Flushes f mx (signedBy neg num) den ↔ _ := flushes_iff hden hnum
  have htiny : Tiny f (mx.extractLsb' 13 2) (signedBy neg num) den ↔ tiny f (mxRc mx) neg num den = true :=
    tiny_iff hden hnum
  have hshort : Short f (signedBy neg num) den ↔ inexactUnits f (mxRc mx) neg num den = false := by
    rw [short_iff (rc := mxRc mx) hden hf]
    simp [inexactUnits]
  have hvalue : ∀ ho : roundUnits f (mxRc mx) neg num den ≤ f.maxUnits,
      f.value (f.pack neg (roundUnits f (mxRc mx) neg num den)) * den = signedBy neg num ↔
        inexactUnits f (mxRc mx) neg num den = false := fun ho => by
    rw [hf.value_pack neg (fits_roundUnits hden) ho, signedBy_mul_right, signedBy_inj]
    norm_cast
    simp [inexactUnits]
  refine ⟨fun ho => ?_, fun hfl => ?_, fun ho hfl => ?_, fun ho hfl => ?_⟩
  · rw [deliver_of_overflow (hover.mp ho), hshort, Bool.not_eq_false, ← Bool.or_eq_true]
    refine ⟨fun hp => ?_, fun hom hexact => ?_⟩
    · rw [show (mxOm mx || inexactUnits f (mxRc mx) neg num den) = true from hp, BitVec.or_assoc]
      rfl
    · rw [show mxOm mx = false from hom, hexact]
      exact BitVec.or_zero
  · rw [deliver_of_flushes (hflush.mp hfl), BitVec.or_assoc]
    rfl
  · have hmax := Nat.le_of_not_lt (mt hover.mpr ho)
    rw [deliver_of_rounded hmax (Bool.eq_false_iff.mpr (mt hflush.mpr hfl)), hvalue hmax, htiny]
    intro hexact
    rw [hexact, Bool.or_false, Bool.not_eq_true]
    refine ⟨fun ht hum => ?_, fun h => ?_⟩
    · rw [ht, show mxUm mx = false from hum]
      exact BitVec.or_zero
    · have hno : (tiny f (mxRc mx) neg num den && !mxUm mx) = false := by
        rw [Bool.and_eq_false_iff, Bool.not_eq_false']
        exact h
      rw [hno]
      exact BitVec.or_zero.trans BitVec.or_zero
  · have hmax := Nat.le_of_not_lt (mt hover.mpr ho)
    rw [deliver_of_rounded hmax (Bool.eq_false_iff.mpr (mt hflush.mpr hfl)), Ne, hvalue hmax, htiny, Bool.not_eq_false]
    intro hinexact
    rw [hinexact, Bool.or_true, Bool.and_true, Bool.not_eq_true]
    refine ⟨fun ht => ?_, fun ht => ?_⟩
    · rw [ht, BitVec.or_assoc]
      rfl
    · rw [ht, BitVec.or_assoc]
      rfl

end

end

end Sys2Proof.Machine
end

section
/-! SUPPORT. The operands of a floating-point operation: the substitution of denormals, the NaN that comes first, the change of
sign; and an equation for each case of the four operations and the square root (41_fp_numerics.md rules R272 to R282). -/

namespace Sys2Proof.Machine

open Sys2Proof.Spec

section
variable {n : Nat} {f : Fmt n}

/-! ## Fields of a pattern, as bits -/

theorem Fmt.expo_eq_extract (f : Fmt n) (x : BitVec n) : f.expo x = (x.extractLsb' f.t f.w).toNat := by
  rw [BitVec.extractLsb'_toNat, Nat.shiftRight_eq_div_pow]
  rfl

theorem Fmt.frac_eq_extract (f : Fmt n) (x : BitVec n) : f.frac x = (x.extractLsb' 0 f.t).toNat := by
  rw [BitVec.extractLsb'_toNat]
  rfl

/-- The sign bit alone is a zero of its sign. -/
theorem and_signBit (f : Fmt n) (x : BitVec n) : x &&& BitVec.ofNat n (2 ^ (n - 1)) = f.zero (f.neg x) := by
  have hpow : BitVec.ofNat n (2 ^ (n - 1)) = BitVec.twoPow n (n - 1) := by
    apply BitVec.eq_of_toNat_eq
    rw [BitVec.toNat_twoPow, BitVec.toNat_ofNat]
  have hzero : f.zero (f.neg x) = if f.neg x then BitVec.ofNat n (2 ^ (n - 1)) else 0#n := by
    unfold Fmt.zero Fmt.signed
    split <;> rfl
  rw [hzero, Fmt.neg, BitVec.msb_eq_getLsbD_last, hpow, BitVec.and_twoPow]

/-! ## Denormals are zeros (R272) -/

theorem dazOperand_eq (f : Fmt n) (mx : Dword) (x : BitVec n) : dazOperand f mx x = daz f mx x := by
  unfold dazOperand daz mxDaz
  rw [and_signBit f]
  simp only [Bool.and_eq_true]

theorem daz_of_not_denormal {mx : Dword} {x : BitVec n} (h : f.isDenormal x = false) : daz f mx x = x :=
  if_neg fun hd => by simp [h] at hd

theorem daz_cases (f : Fmt n) (mx : Dword) (x : BitVec n) :
    daz f mx x = x ∨ f.isDenormal x = true ∧ daz f mx x = f.zero (f.neg x) := by
  unfold daz
  split
  · next h => exact .inr ⟨h.2, and_signBit f x⟩
  · exact .inl rfl

section
variable (hf : f.Wf) (mx : Dword) (x : BitVec n)
include hf

theorem Fmt.Wf.daz_of_not_finite {x : BitVec n} (h : ¬IsFinite f x) : daz f mx x = x :=
  daz_of_not_denormal (isDenormal_of_not_finite hf h)

@[simp] theorem Fmt.Wf.finite_daz : IsFinite f (daz f mx x) ↔ IsFinite f x := by
  rcases daz_cases f mx x with h | ⟨hd, h⟩
  · rw [h]
  · rw [h]
    exact iff_of_true (isFinite_of_isZero hf (hf.isZero_zero _)) (isFinite_of_isDenormal hf hd)

@[simp] theorem Fmt.Wf.neg_daz : f.neg (daz f mx x) = f.neg x := by
  rcases daz_cases f mx x with h | ⟨-, h⟩
  · rw [h]
  · rw [h, hf.neg_zero]

@[simp] theorem Fmt.Wf.isNan_daz : f.isNan (daz f mx x) = f.isNan x := by
  by_cases h : IsFinite f x
  · rw [((hf.finite_daz mx x).mpr h).1, h.1]
  · rw [hf.daz_of_not_finite mx h]

@[simp] theorem Fmt.Wf.isInf_daz : f.isInf (daz f mx x) = f.isInf x := by
  by_cases h : IsFinite f x
  · rw [((hf.finite_daz mx x).mpr h).2, h.2]
  · rw [hf.daz_of_not_finite mx h]

theorem Fmt.Wf.daz_of_isNan {x : BitVec n} (h : f.isNan x = true) : daz f mx x = x :=
  hf.daz_of_not_finite mx (not_finite_of_isNan h)

theorem Fmt.Wf.daz_of_isInf {x : BitVec n} (h : f.isInf x = true) : daz f mx x = x :=
  hf.daz_of_not_finite mx (not_finite_of_isInf h)

@[simp] theorem Fmt.Wf.isSNan_daz : f.isSNan (daz f mx x) = f.isSNan x := by
  cases h : f.isNan x with
  | false => rw [isSNan_of_not_nan h, isSNan_of_not_nan ((hf.isNan_daz mx x).trans h)]
  | true => rw [hf.daz_of_isNan mx h]

end

/-! ## Zeros -/

theorem units_eq_zero_iff {x : BitVec n} : f.units x = 0 ↔ f.isZero x = true := by
  rw [isZero_iff, Fmt.units]
  split
  · next h => simp [h]
  · next h =>
    have h1 := Nat.two_pow_pos f.t
    have h2 := Nat.two_pow_pos (f.expo x - 1)
    simp only [Nat.mul_eq_zero, h, false_and, iff_false]
    omega

/-! ## A sign changed (R279) -/

section
variable (hf : f.Wf) (x : BitVec n)
include hf

@[simp] theorem Fmt.Wf.expo_negate : f.expo (f.negate x) = f.expo x := by
  have h0 : f.expo (f.signed true 0) = 0 := (isZero_iff.mp (hf.isZero_zero true)).1
  rw [f.expo_eq_extract] at h0
  rw [f.expo_eq_extract, f.expo_eq_extract, Fmt.negate, BitVec.extractLsb'_xor, BitVec.toNat_xor, h0, Nat.xor_zero]

@[simp] theorem Fmt.Wf.frac_negate : f.frac (f.negate x) = f.frac x := by
  have h0 : f.frac (f.signed true 0) = 0 := (isZero_iff.mp (hf.isZero_zero true)).2
  rw [f.frac_eq_extract] at h0
  rw [f.frac_eq_extract, f.frac_eq_extract, Fmt.negate, BitVec.extractLsb'_xor, BitVec.toNat_xor, h0, Nat.xor_zero]

@[simp] theorem Fmt.Wf.neg_negate : f.neg (f.negate x) = !f.neg x := by
  have h1 : (f.signed true 0).msb = true := hf.neg_zero true
  rw [Fmt.neg, Fmt.negate, BitVec.msb_xor, h1, Bool.xor_true]
  rfl

@[simp] theorem Fmt.Wf.isNan_negate : f.isNan (f.negate x) = f.isNan x := by simp [Fmt.isNan, hf]

@[simp] theorem Fmt.Wf.isInf_negate : f.isInf (f.negate x) = f.isInf x := by simp [Fmt.isInf, hf]

@[simp] theorem Fmt.Wf.isZero_negate : f.isZero (f.negate x) = f.isZero x := by simp [Fmt.isZero, hf]

@[simp] theorem Fmt.Wf.isDenormal_negate : f.isDenormal (f.negate x) = f.isDenormal x := by simp [Fmt.isDenormal, hf]

theorem denormal2_negate (a b : BitVec n) : denormal2 f a (f.negate b) = denormal2 f a b := by
  rw [denormal2, denormal2, hf.isDenormal_negate]

@[simp] theorem Fmt.Wf.units_negate : f.units (f.negate x) = f.units x := by simp [Fmt.units, hf]

@[simp] theorem Fmt.Wf.value_negate : f.value (f.negate x) = -f.value x := by
  unfold Fmt.value
  rw [hf.neg_negate, hf.units_negate]
  cases f.neg x <;> simp

end

/-! ## The NaN that comes first (R275) -/

section
variable {a b : BitVec n} {mx : Dword}

/-- Invalid, if an operand is a signalling NaN (R274). -/
def signalling (f : Fmt n) (a b : BitVec n) : BitVec 6 := condIf (f.isSNan a || f.isSNan b) condI

theorem nanOf2_first (ha : f.isNan a = true) : nanOf2 f a b = some ⟨f.quiet a, signalling f a b⟩ := if_pos ha

theorem nanOf2_second (ha : f.isNan a = false) (hb : f.isNan b = true) :
    nanOf2 f a b = some ⟨f.quiet b, signalling f a b⟩ := by simp [nanOf2, ha, hb, signalling]

theorem nanOf2_none (ha : f.isNan a = false) (hb : f.isNan b = false) : nanOf2 f a b = none := by
  simp [nanOf2, ha, hb]

/-- The four operations deliver the NaN result of the operands they use. -/
theorem arithmetic_of_nan {r : Lane n} (h : nanOf2 f (daz f mx a) (daz f mx b) = some r) :
    ∀ op ∈ [fadd f, fsub f, fmul f, fdiv f], op mx a b = r := by
  simp only [List.forall_mem_cons]
  refine ⟨?_, ?_, ?_, ?_, nofun⟩
  · simp only [fadd, dazOperand_eq, h]
  · simp only [fsub, dazOperand_eq, h]
  · simp only [fmul, dazOperand_eq, h]
  · simp only [fdiv, dazOperand_eq, h]

/-! ## The four operations without a NaN -/

section
variable (hf : f.Wf) (hna : f.isNan a = false) (hnb : f.isNan b = false)
include hf hna hnb

theorem nanOf2_daz : nanOf2 f (daz f mx a) (daz f mx b) = none :=
  nanOf2_none ((hf.isNan_daz mx a).trans hna) ((hf.isNan_daz mx b).trans hnb)

theorem fadd_eq : fadd f mx a b = addNumbers f mx (daz f mx a) (daz f mx b) := by
  simp only [fadd, dazOperand_eq, nanOf2_daz hf hna hnb]

theorem fsub_eq : fsub f mx a b = addNumbers f mx (daz f mx a) (f.negate (daz f mx b)) := by
  simp only [fsub, dazOperand_eq, nanOf2_daz hf hna hnb]

/-- A zero times an infinity (R280). -/
theorem fmul_of_invalid
    (h : f.isZero (daz f mx a) = true ∧ f.isInf b = true ∨ f.isInf a = true ∧ f.isZero (daz f mx b) = true) :
    fmul f mx a b = ⟨f.indefinite, condI⟩ := by
  simp only [fmul, dazOperand_eq, nanOf2_daz hf hna hnb, hf.isInf_daz]
  exact if_pos (by simpa using h)

theorem fmul_of_inf
    (h : f.isInf a = true ∧ f.isZero (daz f mx b) = false ∨ f.isInf b = true ∧ f.isZero (daz f mx a) = false) :
    fmul f mx a b = ⟨f.inf (f.neg a != f.neg b), denormal2 f (daz f mx a) (daz f mx b)⟩ := by
  simp only [fmul, dazOperand_eq, nanOf2_daz hf hna hnb, hf.isInf_daz, hf.neg_daz]
  have hvalid : ¬((f.isZero (daz f mx a) && f.isInf b || f.isInf a && f.isZero (daz f mx b)) = true) := by
    have hzero : ∀ x : BitVec n, f.isInf x = true → f.isZero (daz f mx x) = false := fun x hx => by
      rw [hf.daz_of_isInf mx hx, isZero_of_not_finite hf (not_finite_of_isInf hx)]
    rcases h with ⟨h1, h2⟩ | ⟨h1, h2⟩ <;> simp [h2, hzero _ h1]
  rw [if_neg hvalid, if_pos]
  rcases h with ⟨h1, -⟩ | ⟨h1, -⟩ <;> simp [h1]

/-- Two zeros or two infinities (R281). -/
theorem fdiv_of_invalid
    (h : f.isZero (daz f mx a) = true ∧ f.isZero (daz f mx b) = true ∨ f.isInf a = true ∧ f.isInf b = true) :
    fdiv f mx a b = ⟨f.indefinite, condI⟩ := by
  simp only [fdiv, dazOperand_eq, nanOf2_daz hf hna hnb, hf.isInf_daz]
  exact if_pos (by simpa using h)

/-- A finite number other than zero, divided by zero (R281). -/
theorem fdiv_of_zero (ha : f.isInf a = false) (hza : f.isZero (daz f mx a) = false)
    (hzb : f.isZero (daz f mx b) = true) :
    fdiv f mx a b = ⟨f.inf (f.neg a != f.neg b), condZ⟩ := by
  simp [fdiv, dazOperand_eq, nanOf2_daz hf hna hnb, hf, ha, hza, hzb]

theorem fdiv_of_inf_left (ha : f.isInf a = true) (hb : f.isInf b = false) :
    fdiv f mx a b = ⟨f.inf (f.neg a != f.neg b), denormal2 f (daz f mx a) (daz f mx b)⟩ := by
  have hza : f.isZero (daz f mx a) = false := by
    rw [hf.daz_of_isInf mx ha, isZero_of_not_finite hf (not_finite_of_isInf ha)]
  simp [fdiv, dazOperand_eq, nanOf2_daz hf hna hnb, hf, ha, hb, hza]

/-- A quotient that is zero: by an infinity, or of a zero (R281). -/
theorem fdiv_of_zero_quotient (ha : f.isInf a = false) (hzb : f.isZero (daz f mx b) = false)
    (h : f.isInf b = true ∨ f.isZero (daz f mx a) = true) :
    fdiv f mx a b = ⟨f.zero (f.neg a != f.neg b), denormal2 f (daz f mx a) (daz f mx b)⟩ := by
  simp only [fdiv, dazOperand_eq, nanOf2_daz hf hna hnb, hf.isInf_daz, hf.neg_daz]
  simp [ha, hzb, h]

end

section
variable (hf : f.Wf) (ha : IsFinite f a) (hb : IsFinite f b)
include hf ha hb

theorem fmul_of_zero (h : f.isZero (daz f mx a) = true ∨ f.isZero (daz f mx b) = true) :
    fmul f mx a b = ⟨f.zero (f.neg a != f.neg b), denormal2 f (daz f mx a) (daz f mx b)⟩ := by
  simp only [fmul, dazOperand_eq, nanOf2_daz hf ha.1 hb.1, hf.isInf_daz, hf.neg_daz]
  simp [ha.2, hb.2, h]

theorem fmul_of_finite (hza : f.isZero (daz f mx a) = false) (hzb : f.isZero (daz f mx b) = false) :
    fmul f mx a b = deliver f mx (f.neg a != f.neg b) (f.units (daz f mx a) * f.units (daz f mx b)) (2 ^ f.scale)
      (denormal2 f (daz f mx a) (daz f mx b)) := by
  simp [fmul, dazOperand_eq, nanOf2_daz hf ha.1 hb.1, hf, ha.2, hb.2, hza, hzb]

theorem fdiv_of_finite (hza : f.isZero (daz f mx a) = false) (hzb : f.isZero (daz f mx b) = false) :
    fdiv f mx a b = deliver f mx (f.neg a != f.neg b) (f.units (daz f mx a) * 2 ^ f.scale) (f.units (daz f mx b))
      (denormal2 f (daz f mx a) (daz f mx b)) := by
  simp [fdiv, dazOperand_eq, nanOf2_daz hf ha.1 hb.1, hf, ha.2, hb.2, hza, hzb]

end

/-! ## Sums of numbers (R279) -/

theorem addNumbers_of_invalid (ha : f.isInf a = true) (hb : f.isInf b = true) (h : f.neg a ≠ f.neg b) :
    addNumbers f mx a b = ⟨f.indefinite, condI⟩ := by simp [addNumbers, ha, hb, h]

theorem addNumbers_of_inf_left (ha : f.isInf a = true) (h : f.isInf b = true → f.neg a = f.neg b) :
    addNumbers f mx a b = ⟨a, denormal2 f a b⟩ := by
  cases hb : f.isInf b with
  | false => simp [addNumbers, ha, hb]
  | true => simp [addNumbers, ha, hb, h hb]

theorem addNumbers_of_inf_right (ha : f.isInf a = false) (hb : f.isInf b = true) :
    addNumbers f mx a b = ⟨b, denormal2 f a b⟩ := by simp [addNumbers, ha, hb]

theorem addNumbers_of_zero_sum (ha : f.isInf a = false) (hb : f.isInf b = false) (h : f.value a + f.value b = 0) :
    addNumbers f mx a b =
      ⟨if f.isZero a && f.isZero b && f.neg a == f.neg b then a else f.zero (mxRc mx == 1#2), denormal2 f a b⟩ := by
  simp only [addNumbers, ha, hb, h, Bool.false_and, Bool.false_eq_true, if_false, if_true]
  split <;> rfl

theorem addNumbers_of_sum (ha : f.isInf a = false) (hb : f.isInf b = false) (h : f.value a + f.value b ≠ 0) :
    addNumbers f mx a b = deliver f mx (decide (f.value a + f.value b < 0)) (f.value a + f.value b).natAbs 1
      (denormal2 f a b) := by simp [addNumbers, ha, hb, h]

/-! ## The square root (R282) -/

section
variable (hf : f.Wf)
include hf

theorem fsqrt_of_nan (h : f.isNan a = true) :
    fsqrt f mx a = ⟨f.quiet a, condIf (f.isSNan a) condI⟩ := by
  simp [fsqrt, dazOperand_eq, hf.daz_of_isNan mx h, h]

theorem fsqrt_of_zero (h : f.isZero (daz f mx a) = true) : fsqrt f mx a = ⟨daz f mx a, 0#6⟩ := by
  have hnan := (isFinite_of_isZero hf h).1
  simp [fsqrt, dazOperand_eq, hnan, h]

theorem fsqrt_of_neg (hna : f.isNan a = false) (hza : f.isZero (daz f mx a) = false) (h : f.neg a = true) :
    fsqrt f mx a = ⟨f.indefinite, condI⟩ := by
  simp [fsqrt, dazOperand_eq, hf, hna, hza, h]

theorem fsqrt_of_inf (ha : f.isInf a = true) (h : f.neg a = false) : fsqrt f mx a = ⟨a, 0#6⟩ := by
  have hna := isNan_of_isInf ha
  have hza := isZero_of_not_finite hf (not_finite_of_isInf ha)
  have hda := isDenormal_of_not_finite hf (not_finite_of_isInf ha)
  simp [fsqrt, dazOperand_eq, hf.daz_of_isInf mx ha, ha, hna, hza, hda, h, condIf]

/-- The root of a positive finite number, by the integer root and half a unit more if that is not exact. -/
theorem fsqrt_of_finite (ha : IsFinite f a) (hza : f.isZero (daz f mx a) = false) (h : f.neg a = false) :
    fsqrt f mx a =
      let x := f.units (daz f mx a) * 2 ^ f.scale
      deliver f mx false (2 * isqrt x + if isqrt x * isqrt x = x then 0 else 1) 2
        (condIf (f.isDenormal (daz f mx a)) condD) := by
  simp [fsqrt, dazOperand_eq, hf, ha.1, ha.2, hza, h]

end

end

end

end Sys2Proof.Machine
end

section
/-! SUPPORT. The rules for one lane that need no rounding: NaN operands, invalid operations, minimum and maximum, comparisons
(41_fp_numerics.md rules R274 to R283, R288, R289). -/

namespace Sys2Proof.Machine

open Sys2Proof.Spec

section
variable {n : Nat} {f : Fmt n} {a b : BitVec n} {mx : Dword}

/-! ## Conditions, in the statements' terms -/

theorem signalling_eq (f : Fmt n) (a b : BitVec n) :
    signalling f a b = if f.isSNan a = true ∨ f.isSNan b = true then 0x01#6 else 0#6 := by
  simp only [signalling, condIf, condI, Bool.or_eq_true]

theorem denormal2_eq (f : Fmt n) (a b : BitVec n) :
    denormal2 f a b = if f.isDenormal a = true ∨ f.isDenormal b = true then 0x02#6 else 0#6 := by
  simp only [denormal2, condIf, condD, Bool.or_eq_true]

theorem denormal2_daz (f : Fmt n) (mx : Dword) (a b : BitVec n) :
    denormal2 f (daz f mx a) (daz f mx b) = denormals f mx a b := denormal2_eq ..

theorem denormals_self (f : Fmt n) (mx : Dword) (a : BitVec n) :
    denormals f mx a a = condIf (f.isDenormal (daz f mx a)) condD := by simp only [denormals, or_self, condIf, condD]

theorem denormal2_not_invalid (f : Fmt n) (a b : BitVec n) : (denormal2 f a b).getLsbD 0 = false := by
  unfold denormal2 condIf
  split <;> rfl

/-! ## NaN operands (R275, R276) -/

theorem nanRule (hf : f.Wf) : NanRule f := by
  intro mx a b invalid
  have hsig : signalling f (daz f mx a) (daz f mx b) = invalid := by
    rw [signalling_eq, hf.isSNan_daz, hf.isSNan_daz]
  refine ⟨fun op hop => ⟨fun ha => ?_, fun ha hb => ?_⟩, fun ha => fsqrt_of_nan hf ha⟩
  · have hnan : nanOf2 f (daz f mx a) (daz f mx b) = some ⟨f.quiet a, invalid⟩ := by
      rw [nanOf2_first ((hf.isNan_daz mx a).trans ha), hsig, hf.daz_of_isNan mx ha]
    exact arithmetic_of_nan hnan op hop
  · have hnan : nanOf2 f (daz f mx a) (daz f mx b) = some ⟨f.quiet b, invalid⟩ := by
      rw [nanOf2_second ((hf.isNan_daz mx a).trans ha) ((hf.isNan_daz mx b).trans hb), hsig, hf.daz_of_isNan mx hb]
    exact arithmetic_of_nan hnan op hop

/-- Settles O51: the NaN that the operations look for first, of operands that the substitution leaves NaNs. -/
theorem nanOperandIsQuieted : Obligations.NanOperandIsQuieted := ⟨nanRule single_wf, nanRule double_wf⟩

/-! ## Invalid operations (R277, R279 to R282) -/

/-- A lane that detects an invalid operation holds the indefinite value. -/
structure InvalidIsIndefinite (f : Fmt n) (r : Lane n) : Prop where
  indefinite : r.conditions.getLsbD 0 = true → r.bits = f.indefinite

theorem invalidIsIndefinite_of_valid {x : BitVec n} {c : BitVec 6} (h : c.getLsbD 0 = false) :
    InvalidIsIndefinite f ⟨x, c⟩ :=
  ⟨fun hc => nomatch hc.symm.trans h⟩

theorem invalidIsIndefinite_denormal (x a b : BitVec n) : InvalidIsIndefinite f ⟨x, denormal2 f a b⟩ :=
  invalidIsIndefinite_of_valid (denormal2_not_invalid ..)

/-- Delivering a result detects no invalid operation. -/
theorem deliver_conditions_invalid (f : Fmt n) (mx : Dword) (neg : Bool) (num den : Nat) (c : BitVec 6) :
    (deliver f mx neg num den c).conditions.getLsbD 0 = c.getLsbD 0 := by
  have hP : ∀ p : Bool, (condIf p condP).getLsbD 0 = false := by decide
  have hUP : ∀ p : Bool, (condIf p (condU ||| condP)).getLsbD 0 = false := by decide
  have hO : condO.getLsbD 0 = false := rfl
  have hU : condU.getLsbD 0 = false := rfl
  have hP' : condP.getLsbD 0 = false := rfl
  unfold deliver
  dsimp only
  split
  · simp only [BitVec.getLsbD_or, hO, hP, Bool.or_false]
  split
  · split
    · simp only [BitVec.getLsbD_or, hU, hP, Bool.or_false]
    split
    · simp only [BitVec.getLsbD_or, hU, hP', Bool.or_false]
    · simp only [BitVec.getLsbD_or, hUP, Bool.or_false]
  · simp only [BitVec.getLsbD_or, hP, Bool.or_false]

theorem invalidIsIndefinite_deliver (neg : Bool) (num den : Nat) (a b : BitVec n) :
    InvalidIsIndefinite f (deliver f mx neg num den (denormal2 f a b)) :=
  ⟨fun hc => nomatch ((deliver_conditions_invalid ..).symm.trans hc).symm.trans (denormal2_not_invalid ..)⟩

theorem invalidIsIndefinite_addNumbers (a b : BitVec n) : InvalidIsIndefinite f (addNumbers f mx a b) := by
  unfold addNumbers
  dsimp only
  split
  · exact ⟨fun _ => rfl⟩
  split
  · exact invalidIsIndefinite_denormal ..
  split
  · exact invalidIsIndefinite_denormal ..
  split
  · split
    · exact invalidIsIndefinite_denormal ..
    · exact invalidIsIndefinite_denormal ..
  · exact invalidIsIndefinite_deliver ..

theorem invalidIsIndefinite_arithmetic (hf : f.Wf) (hna : f.isNan a = false) (hnb : f.isNan b = false) :
    ∀ op ∈ [fadd f, fsub f, fmul f, fdiv f], InvalidIsIndefinite f (op mx a b) := by
  simp only [List.forall_mem_cons]
  refine ⟨?fadd, ?fsub, ?fmul, ?fdiv, nofun⟩
  case fadd =>
    rw [fadd_eq hf hna hnb]
    exact invalidIsIndefinite_addNumbers ..
  case fsub =>
    rw [fsub_eq hf hna hnb]
    exact invalidIsIndefinite_addNumbers ..
  case fmul =>
    simp only [fmul, dazOperand_eq, nanOf2_daz hf hna hnb]
    split
    · exact ⟨fun _ => rfl⟩
    split
    · exact invalidIsIndefinite_denormal ..
    split
    · exact invalidIsIndefinite_denormal ..
    · exact invalidIsIndefinite_deliver ..
  case fdiv =>
    simp only [fdiv, dazOperand_eq, nanOf2_daz hf hna hnb]
    split
    · exact ⟨fun _ => rfl⟩
    split
    · exact invalidIsIndefinite_of_valid rfl
    split
    · exact invalidIsIndefinite_denormal ..
    split
    · exact invalidIsIndefinite_denormal ..
    · exact invalidIsIndefinite_deliver ..

theorem invalidIsIndefinite_fsqrt (hf : f.Wf) (hna : f.isNan a = false) : InvalidIsIndefinite f (fsqrt f mx a) := by
  have hd : ∀ p : Bool, (condIf p condD).getLsbD 0 = false := by decide
  simp only [fsqrt, dazOperand_eq, hf.isNan_daz, hna, Bool.false_eq_true, if_false]
  split
  · exact invalidIsIndefinite_of_valid rfl
  split
  · exact ⟨fun _ => rfl⟩
  split
  · exact invalidIsIndefinite_of_valid (hd _)
  · exact ⟨fun hc => nomatch ((deliver_conditions_invalid ..).symm.trans hc).symm.trans (hd _)⟩

/-! ## To an integer (R290) -/

/-- The whole number to which a finite operand is rounded. -/
def toInteger (f : Fmt n) (mx : Dword) (rc : BitVec 2) (x : BitVec n) : Int :=
  signedBy (f.neg (daz f mx x)) (roundQuotient rc (f.neg (daz f mx x)) (f.units (daz f mx x)) (2 ^ f.scale) : Nat)

section
variable {rc : BitVec 2}

theorem f2i_of_outside (hf : f.Wf)
    (h : ¬IsFinite f a ∨ toInteger f mx rc a < -2147483648 ∨ 2147483647 < toInteger f mx rc a) :
    f2i f mx rc a = ⟨0x80000000#32, condI⟩ := by
  simp only [f2i, dazOperand_eq, hf.isNan_daz, hf.isInf_daz]
  refine if_pos ?_
  rw [IsFinite, not_and_or, Bool.not_eq_false, Bool.not_eq_false, or_assoc] at h
  simp only [Bool.or_eq_true, decide_eq_true_eq, or_assoc]
  exact h

theorem f2i_of_inside (hf : f.Wf) (ha : IsFinite f a) (hlow : -2147483648 ≤ toInteger f mx rc a)
    (hhigh : toInteger f mx rc a ≤ 2147483647) :
    f2i f mx rc a =
      ⟨BitVec.ofInt 32 (toInteger f mx rc a),
        condIf (decide (roundQuotient rc (f.neg (daz f mx a)) (f.units (daz f mx a)) (2 ^ f.scale) * 2 ^ f.scale ≠
          f.units (daz f mx a))) condP⟩ := by
  simp only [f2i, dazOperand_eq, hf.isNan_daz, hf.isInf_daz, ha.1, ha.2]
  refine if_neg ?_
  simp only [Bool.or_eq_true, decide_eq_true_eq, Bool.false_eq_true, false_or, not_or, Int.not_lt]
  exact ⟨hlow, hhigh⟩

/-- An invalid conversion to an integer gives the integer indefinite. -/
theorem f2i_of_invalid (hf : f.Wf) (h : (f2i f mx rc a).conditions.getLsbD 0 = true) :
    (f2i f mx rc a).bits = 0x80000000#32 := by
  have hp : ∀ p : Bool, (condIf p condP).getLsbD 0 = false := by decide
  by_cases hout : ¬IsFinite f a ∨ toInteger f mx rc a < -2147483648 ∨ 2147483647 < toInteger f mx rc a
  · rw [f2i_of_outside hf hout]
  · simp only [not_or, not_not, Int.not_lt] at hout
    rw [f2i_of_inside hf hout.1 hout.2.1 hout.2.2, hp] at h
    cases h

end

/-! ## The statement on invalid operations -/

theorem invalidRule (hf : f.Wf) : InvalidRule f f.indefinite := by
  intro mx a b a' b'
  have hinf : ∀ {x : BitVec n}, f.isInf x = true → daz f mx x = x := hf.daz_of_isInf mx
  refine ⟨fun ha hb hne => ?_, fun ha hb heq => ?_, fun h => ?_, fun h => ?_, fun ha hza hzb => ?_,
    fun hna hza hneg => fsqrt_of_neg hf hna hza hneg, 
    fun op hop hna hnb => (invalidIsIndefinite_arithmetic hf hna hnb op hop).indefinite,
    fun hna => (invalidIsIndefinite_fsqrt hf hna).indefinite, fun rc => f2i_of_invalid hf⟩
  · rw [fadd_eq hf (isNan_of_isInf ha) (isNan_of_isInf hb), hinf ha, hinf hb]
    exact addNumbers_of_invalid ha hb hne
  · rw [fsub_eq hf (isNan_of_isInf ha) (isNan_of_isInf hb), hinf ha, hinf hb]
    refine addNumbers_of_invalid ha ((hf.isInf_negate b).trans hb) ?_
    rw [hf.neg_negate, Fmt.neg, Fmt.neg, heq]
    exact (Bool.not_ne_self _).symm
  · have hnan : f.isNan a = false ∧ f.isNan b = false := by
      rcases h with ⟨hz, hi⟩ | ⟨hi, hz⟩
      · exact ⟨(hf.isNan_daz mx a).symm.trans (isFinite_of_isZero hf hz).1, isNan_of_isInf hi⟩
      · exact ⟨isNan_of_isInf hi, (hf.isNan_daz mx b).symm.trans (isFinite_of_isZero hf hz).1⟩
    exact fmul_of_invalid hf hnan.1 hnan.2 h
  · have hnan : f.isNan a = false ∧ f.isNan b = false := by
      rcases h with ⟨hza, hzb⟩ | ⟨hia, hib⟩
      · exact ⟨((hf.finite_daz mx a).mp (isFinite_of_isZero hf hza)).1,
          ((hf.finite_daz mx b).mp (isFinite_of_isZero hf hzb)).1⟩
      · exact ⟨isNan_of_isInf hia, isNan_of_isInf hib⟩
    exact fdiv_of_invalid hf hnan.1 hnan.2 h
  · have hb := (hf.finite_daz mx b).mp (isFinite_of_isZero hf hzb)
    rw [fdiv_of_zero hf ha.1 hb.1 ha.2 hza hzb]
    exact ⟨rfl, hf.isInf_inf _, hf.neg_inf _⟩

/-- Settles O52: case by case, and that no other case detects an invalid operation. -/
theorem invalidOperationGivesIndefinite : Obligations.InvalidOperationGivesIndefinite :=
  ⟨invalidRule single_wf, invalidRule double_wf⟩

/-! ## Minimum and maximum (R283) -/

theorem pick_of_nan (hf : f.Wf) (first : Int → Int → Bool) (h : f.isNan a = true ∨ f.isNan b = true) :
    pick f mx first a b = ⟨daz f mx b, condI⟩ := by
  simp only [pick, dazOperand_eq, hf.isNan_daz]
  exact if_pos (by simpa using h)

theorem value_eq_zero_iff {x : BitVec n} : f.value x = 0 ↔ f.isZero x = true := by
  rw [← units_eq_zero_iff, Fmt.value]
  split <;> omega

/-- Two zeros are equal, so the rule for them is a case of the comparison. -/
theorem pick_of_numbers (hf : f.Wf) {first : Int → Int → Bool} (hfirst : first 0 0 = false) (hna : f.isNan a = false)
    (hnb : f.isNan b = false) :
    pick f mx first a b =
      ⟨if first (f.value (daz f mx a)) (f.value (daz f mx b)) then daz f mx a else daz f mx b,
        denormal2 f (daz f mx a) (daz f mx b)⟩ := by
  simp only [pick, dazOperand_eq, hf.isNan_daz, hna, hnb, Bool.or_false, Bool.false_eq_true, if_false, Bool.and_eq_true,
    ← value_eq_zero_iff]
  split
  · next h => rw [h.1, h.2, hfirst]; rfl
  · split <;> rfl

theorem minMaxRule (hf : f.Wf) : MinMaxRule f := by
  intro mx a b a' b' d
  have hd : denormal2 f (daz f mx a) (daz f mx b) = d := denormal2_eq ..
  refine ⟨fun h => ⟨pick_of_nan hf _ h, pick_of_nan hf _ h⟩, fun hna hnb => ⟨?_, ?_⟩⟩
  · rw [fmin, pick_of_numbers hf rfl hna hnb, hd]
    simp only [decide_eq_true_eq, a', b']
  · rw [fmax, pick_of_numbers hf rfl hna hnb, hd]
    simp only [decide_eq_true_eq, a', b']

/-- Settles O53: both are the same choice, by one comparison or the other. -/
theorem minMaxPickOneOperand : Obligations.MinMaxPickOneOperand := ⟨minMaxRule single_wf, minMaxRule double_wf⟩

/-! ## Comparisons (R288, R289) -/

theorem relation_unordered_iff : relation f a b = .unordered ↔ f.isNan a = true ∨ f.isNan b = true := by
  unfold relation
  simp only [Bool.or_eq_true]
  split
  · next h => exact iff_of_true rfl h
  · next h =>
    refine iff_of_false (fun hc => ?_) h
    split at hc
    · cases hc
    · split at hc <;> cases hc

theorem relation_of_numbers (h : ¬(f.isNan a = true ∨ f.isNan b = true)) :
    relation f a b =
      if f.value b < f.value a then .greater else if f.value a < f.value b then .less else .equal :=
  if_neg (by simpa using h)

theorem relation_equal_iff :
    relation f a b = .equal ↔ ¬(f.isNan a = true ∨ f.isNan b = true) ∧ f.value a = f.value b := by
  by_cases h : f.isNan a = true ∨ f.isNan b = true
  · simp [relation_unordered_iff.mpr h, h]
  · rw [relation_of_numbers h]
    split
    · simp; omega
    · split
      · simp; omega
      · exact iff_of_true rfl ⟨h, by omega⟩

theorem relation_less_iff :
    relation f a b = .less ↔ ¬(f.isNan a = true ∨ f.isNan b = true) ∧ f.value a < f.value b := by
  by_cases h : f.isNan a = true ∨ f.isNan b = true
  · simp [relation_unordered_iff.mpr h, h]
  · rw [relation_of_numbers h]
    split
    · simp; omega
    · split
      · next hlt => exact iff_of_true rfl ⟨h, hlt⟩
      · simp; omega

theorem relation_less_or_equal_iff :
    relation f a b = .less ∨ relation f a b = .equal ↔
      ¬(f.isNan a = true ∨ f.isNan b = true) ∧ f.value a ≤ f.value b := by
  rw [relation_less_iff, relation_equal_iff, ← and_or_left, ← le_iff_lt_or_eq]

/-- The table of R288. -/
theorem predicateTrue_iff (p : Pred) (r : Relation) :
    predicateTrue p r = true ↔
      (p = 0#3 ∧ r = .equal) ∨ (p = 1#3 ∧ r = .less) ∨ (p = 2#3 ∧ (r = .less ∨ r = .equal)) ∨ (p = 3#3 ∧ r = .unordered) ∨
        (p = 4#3 ∧ ¬r = .equal) ∨ (p = 5#3 ∧ ¬r = .less) ∨ (p = 6#3 ∧ ¬(r = .less ∨ r = .equal)) ∨
        (p = 7#3 ∧ ¬r = .unordered) := by
  cases r <;> revert p <;> decide

theorem predicateSignals_eq (p : Pred) : predicateSignals p = decide (p ∈ [1#3, 2#3, 5#3, 6#3]) := by
  revert p
  decide

theorem compareConditions_eq (f : Fmt n) (anyNan : Bool) (a b : BitVec n) :
    compareConditions f anyNan a b = compareDetects f anyNan a b := by
  unfold compareConditions compareDetects
  simp only [denormal2_eq, condIf, condI, Bool.or_eq_true, or_assoc]

theorem compareRule (hf : f.Wf) : CompareRule f := by
  intro mx p a b x y unordered eq lt le holds
  have hcmp : fcmp f p mx a b =
      ⟨if predicateTrue p (relation f x y) then BitVec.allOnes n else 0#n, compareConditions f (predicateSignals p) x y⟩ := by
    simp only [fcmp, dazOperand_eq, x, y]
  have hholds : predicateTrue p (relation f x y) = true ↔ holds := by
    rw [predicateTrue_iff, relation_less_or_equal_iff, relation_less_iff, relation_equal_iff, relation_unordered_iff,
      hf.isNan_daz, hf.isNan_daz]
  rw [hcmp]
  refine ⟨fun h => if_pos (hholds.mpr h), fun h => if_neg (mt hholds.mp h), ?_⟩
  rw [compareConditions_eq, predicateSignals_eq]

/-- Settles O54: the predicates by the relation of the operands, the conditions by the table. -/
theorem comparePredicates : Obligations.ComparePredicates := ⟨compareRule single_wf, compareRule double_wf⟩

end

end Sys2Proof.Machine
end

section
/-! SUPPORT. Numeric conditions (41_fp_numerics.md rule R294, 60_exceptions.md rule R674): what the commit answers, by which
conditions are masked, and that every floating-point instruction ends in one; the packed and the scalar operations and the
compares that set EFLAGS. -/

namespace Sys2Proof.Machine

open Sys2Proof.Spec

/-! ## The commit -/

section
variable {s : State} {c : BitVec 6}

theorem commit_of_unmasked_pre (h : ¬Masked s.mxcsr (c &&& 7#6)) :
    commit s c = raise (numericFault s (c &&& 7#6)) := if_pos h

theorem commit_of_unmasked_post (hpre : Masked s.mxcsr (c &&& 7#6)) (h : ¬Masked s.mxcsr c) :
    commit s c = raise (numericFault s c) := by
  have hpost : ¬(c &&& ~~~preConditions &&& ~~~mxMasks s.mxcsr = 0#6) := fun hp =>
    h ((mask_parts c preConditions _).mpr ⟨hpre, hp⟩)
  exact (if_neg (not_not.mpr hpre)).trans (if_pos hpost)

theorem takeException_numericFault (s : State) (c : BitVec 6) :
    takeException s (numericFault s c) = numericTook s c := rfl

end

/-- A meaning whose last part is a commit of `c` and then the write of the result. -/
def Commits (s : State) (c : BitVec 6) (r : Result) : Prop :=
  ∃ w : State → State, r = settle s (commit s c >>= fun t => .ok (w t))

section
variable {s : State} {c : BitVec 6} {r : Result}

theorem Commits.unmasked_pre (h : Commits s c r) (hc : ¬Masked s.mxcsr (c &&& 7#6)) :
    r = .next (numericTook s (c &&& 7#6)) := by
  obtain ⟨w, rfl⟩ := h
  rw [commit_of_unmasked_pre hc]
  exact congrArg _ (takeException_numericFault ..)

theorem Commits.unmasked_post (h : Commits s c r) (hpre : Masked s.mxcsr (c &&& 7#6)) (hc : ¬Masked s.mxcsr c) :
    r = .next (numericTook s c) := by
  obtain ⟨w, rfl⟩ := h
  rw [commit_of_unmasked_post hpre hc]
  exact congrArg _ (takeException_numericFault ..)

/-- The checks passed and the operand read, the commit is what is left. -/
theorem Commits.after {w : Nat} {chk : Res Unit} {rd : Res (BitVec w)} {b : BitVec w} {d : BitVec w → BitVec 6}
    {wr : BitVec w → State → State} (hchk : chk = .ok ()) (hrd : rd = .ok b) :
    Commits s (d b) (settle s (chk >>= fun _ => rd >>= fun b => commit s (d b) >>= fun t => .ok (wr b t))) :=
  ⟨wr b, by rw [hchk, hrd]; rfl⟩

end

/-- The union of the conditions of lanes is what they detect together. -/
theorem union_map_range {n : Nat} (m : Nat) (g : Nat → Lane n) :
    union ((List.range m).map g) = together m fun i => (g i).conditions := by
  unfold union together
  rw [List.foldr_map, ← List.foldl_map (f := fun i => (g i).conditions) (g := fun d c => d ||| c), List.foldl_eq_foldr,
    List.foldr_map]

/-! ## Operands -/

section
variable {s : State} {rm : RM} {w : Nat}

theorem xmmOrMem_of_holds {b : BitVec w} (hw : w % 8 = 0) (h : Holds s .checked s.readXmm rm b) :
    s.xmmOrMem w rm = .ok b := by
  cases rm with
  | reg r => exact congrArg _ (show b = _ from h).symm
  | mem m =>
    obtain ⟨hread, hspells⟩ := h
    exact load_of_canRead hw hread hspells

theorem xmmOrMem128_of_holds {b : Xmm} (h : Holds s .must16 s.readXmm rm b) : s.xmmOrMem128 rm = .ok b := by
  cases rm with
  | reg r => exact congrArg _ ((show b = (s.readXmm r).setWidth 128 from h).trans (BitVec.setWidth_eq _)).symm
  | mem m =>
    obtain ⟨hread, hspells⟩ := h
    exact load_of_canRead (by decide) hread hspells

theorem packedSource_of_holds {b : BitVec w} (hw : w % 8 = 0) (h : Holds s (packedAlign w) s.readXmm rm b) :
    s.packedSource w rm = .ok b := by
  unfold packedAlign at h
  unfold State.packedSource
  split
  · next h128 =>
    subst h128
    rw [xmmOrMem128_of_holds h]
    exact congrArg _ (BitVec.setWidth_eq b)
  · next h128 =>
    rw [if_neg h128] at h
    exact xmmOrMem_of_holds hw h

end

/-! ## Rows -/

/-- Both forms of a row's operation: the class of each, and its meaning. -/
structure FpRuns (r : FpRow) : Prop where
  width       : r.n = 32 ∨ r.n = 64
  packedKlass : ∀ reg rm, klass (r.packed reg rm) = (.x, r.ext)
  scalarKlass : ∀ reg rm, klass (r.scalar reg rm) = (.x, r.ext)
  packedExec  : ∀ reg rm s, exec (r.packed reg rm) s = fpPacked r.ext r.lanes reg rm s
  scalarExec  : ∀ reg rm s, exec (r.scalar reg rm) s = fpScalar r.ext r.lanes reg rm s

section
variable {r : FpRow} (h : FpRuns r)
include h

theorem FpRuns.pos : 0 < r.n := by rcases h.width with h | h <;> omega

theorem FpRuns.bytes : r.n % 8 = 0 := by rcases h.width with h | h <;> omega

theorem FpRuns.divides : 128 % r.n = 0 := by rcases h.width with h | h <;> rw [h]

end

theorem fpRows_run (p : Pred) : ∀ r ∈ fpRows p, FpRuns r := by
  simp only [fpRows, List.forall_mem_cons]
  refine ⟨?addps, ?addpd, ?subps, ?subpd, ?mulps, ?mulpd, ?divps, ?divpd, ?maxps, ?maxpd, ?minps, ?minpd, ?sqrtps,
    ?sqrtpd, ?rcpps, ?rsqrtps, ?cmpps, ?cmppd, nofun⟩
  case addps | subps | mulps | divps | maxps | minps | sqrtps | rcpps | rsqrtps | cmpps =>
    exact ⟨.inl rfl, fun _ _ => rfl, fun _ _ => rfl, fun _ _ _ => rfl, fun _ _ _ => rfl⟩
  case addpd | subpd | mulpd | divpd | maxpd | minpd | sqrtpd | cmppd =>
    exact ⟨.inr rfl, fun _ _ => rfl, fun _ _ => rfl, fun _ _ _ => rfl, fun _ _ _ => rfl⟩

/-- A compare that sets EFLAGS: its class and its meaning. -/
structure ComiRuns (r : ComiRow) : Prop where
  width : r.n = 32 ∨ r.n = 64
  wf    : r.f.Wf
  klass : ∀ reg rm, klass (r.make reg rm) = (.x, r.ext)
  exec  : ∀ reg rm s, exec (r.make reg rm) s = fpCompare r.ext r.f r.anyNan reg rm s

theorem ComiRuns.bytes {r : ComiRow} (h : ComiRuns r) : r.n % 8 = 0 := by rcases h.width with h | h <;> omega

theorem comiRows_run : ∀ r ∈ comiRows, ComiRuns r := by
  simp only [comiRows, List.forall_mem_cons]
  refine ⟨?comiss, ?ucomiss, ?comisd, ?ucomisd, nofun⟩
  case comiss | ucomiss => exact ⟨.inl rfl, single_wf, fun _ _ => rfl, fun _ _ _ => rfl⟩
  case comisd | ucomisd => exact ⟨.inr rfl, double_wf, fun _ _ => rfl, fun _ _ _ => rfl⟩

/-! ## Where every condition is masked -/

theorem wroteXmm_flagged (s : State) (c : BitVec 6) (reg : Reg) (v : Xmm) :
    WroteXmm (flagged s c) ((flagged s c).writeXmm reg v) reg v := wroteXmm_writeXmm ..

/-- Settles O45: the lanes of the operation, built into one value. -/
theorem fpPackedResults : Obligations.FpPackedResults := by
  intro p r hr reg rm s b hready hb f c hmasked
  have hrun := fpRows_run p r hr
  have hunion : union (packedLanes r.lanes s.mxcsr (s.readXmm reg) b) = c := union_map_range _ _
  have hexec := fpPacked_eq (op := r.lanes) (reg := reg) (checkX_of_ready hready) (xmmOrMem128_of_holds hb)
    (hunion.symm ▸ hmasked)
  rw [hunion] at hexec
  refine ⟨_, _, (hrun.packedExec ..).trans hexec, wroteXmm_flagged .., fun i hi => ?_⟩
  rw [packedLanes, List.map_map]
  exact lane_build hrun.pos (fun i => (f i).bits) hi

/-- The bits above lane 0 are kept. -/
theorem getLsbD_setLane_zero {n k : Nat} (hn : 0 < n) (hk : k % n = 0) (x : BitVec n) (v : BitVec k) {j : Nat}
    (hj : n ≤ j) (hjk : j < k) : (setLane n 0 x v).getLsbD j = v.getLsbD j := by
  have hlt : j / n < k / n := by
    rw [Nat.div_lt_iff_lt_mul hn, Nat.div_mul_cancel (Nat.dvd_of_mod_eq_zero hk)]
    exact hjk
  have hne : j / n ≠ 0 := (Nat.div_pos hj hn).ne'
  have hlane := lane_setLane (i := 0) hn x v hlt
  rw [if_neg hne] at hlane
  have hbit := congrArg (fun y => y.getLsbD (j % n)) hlane
  simpa [lane, Nat.mod_lt j hn, Nat.div_add_mod] using hbit

/-- Settles O46: lane 0 replaced. -/
theorem fpScalarResults : Obligations.FpScalarResults := by
  intro p r hr reg rm s b hready hb f hmasked
  have hrun := fpRows_run p r hr
  have hexec := fpScalar_eq (op := r.lanes) (reg := reg) (checkX_of_ready hready) (xmmOrMem_of_holds hrun.bytes hb) hmasked
  refine ⟨_, _, (hrun.scalarExec ..).trans hexec, wroteXmm_flagged .., ?_, fun j hj hj128 => ?_⟩
  · have hlane : 0 < 128 / r.n := Nat.div_pos (Nat.le_of_dvd (by decide) (Nat.dvd_of_mod_eq_zero hrun.divides)) hrun.pos
    exact (lane_setLane hrun.pos _ _ hlane).trans (if_pos rfl)
  · exact getLsbD_setLane_zero hrun.pos hrun.divides _ _ hj hj128

/-! ## Compares that set EFLAGS (R289) -/

theorem compareFlags_relation {n : Nat} (f : Fmt n) (old : Dword) (a b : BitVec n) :
    compareFlags old (relation f a b) = comiFlags f old a b := by
  unfold compareFlags comiFlags relation
  simp only [Bool.or_eq_true, statusFlags]
  rw [apply_ite Relation.flags, apply_ite Relation.flags, apply_ite Relation.flags]
  rfl

/-- Settles O47: EFLAGS by the relation of the operands. -/
theorem compareSetsEflags : Obligations.CompareSetsEflags := by
  intro r hr reg rm s b hready hb x y c hmasked
  have hrun := comiRows_run r hr
  have hcomi : fcomi r.f r.anyNan s.mxcsr (lane r.n 0 (s.readXmm reg)) b = (relation r.f x y, c) := by
    simp only [fcomi, dazOperand_eq, compareConditions_eq, x, y, c]
  have hexec := fpCompare_eq (f := r.f) (anyNan := r.anyNan) (reg := reg) (checkX_of_ready hready)
    (xmmOrMem_of_holds hrun.bytes hb) (hcomi.symm ▸ hmasked)
  rw [hcomi] at hexec
  refine ⟨_, (hrun.exec ..).trans hexec, ?_, State.byte_congr rfl rfl rfl⟩
  rw [← compareFlags_relation]
  rfl

/-! ## Where a condition is not masked (R674) -/

section
variable {s : State} {reg : Reg} {rm : RM} {x : Ext}

theorem fpPacked_commits {n : Nat} {op : LaneOp n} {b : Xmm} (hc : checkX x s = .ok ()) (hb : s.xmmOrMem128 rm = .ok b) :
    Commits s (together (128 / n) fun i => (op s.mxcsr (lane n i (s.readXmm reg)) (lane n i b)).conditions)
      (fpPacked x op reg rm s) := by
  rw [← union_map_range (128 / n) fun i => op s.mxcsr (lane n i (s.readXmm reg)) (lane n i b)]
  exact .after (d := fun b => union (packedLanes op s.mxcsr (s.readXmm reg) b)) hc hb

theorem fpScalar_commits {n : Nat} {op : LaneOp n} {b : BitVec n} (hc : checkX x s = .ok ())
    (hb : s.xmmOrMem n rm = .ok b) :
    Commits s (op s.mxcsr (lane n 0 (s.readXmm reg)) b).conditions (fpScalar x op reg rm s) :=
  .after (d := fun b => (op s.mxcsr (lane n 0 (s.readXmm reg)) b).conditions) hc hb

theorem fpCompare_commits {n : Nat} {f : Fmt n} {anyNan : Bool} {b : BitVec n} (hc : checkX x s = .ok ())
    (hb : s.xmmOrMem n rm = .ok b) :
    Commits s (compareDetects f anyNan (daz f s.mxcsr (lane n 0 (s.readXmm reg))) (daz f s.mxcsr b))
      (fpCompare x f anyNan reg rm s) := by
  rw [← compareConditions_eq, ← dazOperand_eq, ← dazOperand_eq]
  exact .after (d := fun b => (fcomi f anyNan s.mxcsr (lane n 0 (s.readXmm reg)) b).2) hc hb

section
variable {m n w c : Nat} {f : Dword → BitVec m → Lane n}

theorem cvtPacked_commits {b : BitVec w} (hc : checkX .sse2 s = .ok ()) (hb : s.packedSource w rm = .ok b) :
    Commits s (together c fun i => (f s.mxcsr (lane m i b)).conditions) (cvtPacked w c f reg rm s) := by
  rw [← union_map_range c fun i => f s.mxcsr (lane m i b)]
  exact .after (d := fun b => union (convertLanes c (f s.mxcsr) b)) hc hb

theorem cvtScalar_commits {b : BitVec m} (hc : checkX .sse2 s = .ok ()) (hb : s.xmmOrMem m rm = .ok b) :
    Commits s (f s.mxcsr b).conditions (cvtScalar f reg rm s) :=
  .after (d := fun b => (f s.mxcsr b).conditions) hc hb

end

theorem cvtFromGpr_commits {n : Nat} {f : Dword → Dword → Lane n} {b : Dword} (hc : checkX x s = .ok ())
    (hb : s.gprOrMem 32 rm = .ok b) : Commits s (f s.mxcsr b).conditions (cvtFromGpr x f reg rm s) :=
  .after (d := fun b => (f s.mxcsr b).conditions) hc hb

theorem cvtToGpr_commits {m : Nat} {f : Dword → BitVec m → Lane 32} {b : BitVec m} (hc : checkX x s = .ok ())
    (hb : s.xmmOrMem m rm = .ok b) : Commits s (f s.mxcsr b).conditions (cvtToGpr x f reg rm s) :=
  .after (d := fun b => (f s.mxcsr b).conditions) hc hb

theorem cvtToMm_commits {m w : Nat} {f : Dword → BitVec m → Lane 32} {b : BitVec w} (hc : checkXM x s = .ok ())
    (hb : s.packedSource w rm = .ok b) :
    Commits s (together 2 fun i => (f s.mxcsr (lane m i b)).conditions) (cvtToMm x w f reg rm s) := by
  rw [← union_map_range 2 fun i => f s.mxcsr (lane m i b)]
  exact .after (d := fun b => union (convertLanes 2 (f s.mxcsr) b)) hc hb

theorem execCvtpi2ps_commits {b : Qword} (hc : checkXM .sse s = .ok ()) (hb : s.mmOrMem 64 rm = .ok b) :
    Commits s (together 2 fun i => (i2f single s.mxcsr (lane 32 i b)).conditions) (execCvtpi2ps reg rm s) := by
  rw [← union_map_range 2 fun i => i2f single s.mxcsr (lane 32 i b)]
  exact .after (d := fun b => union (convertLanes 2 (i2f single s.mxcsr) b)) hc hb

end

/-- Every floating-point instruction, ready and with its operand read, ends in a commit of what the statement says that it
detects: by the family of the instruction. -/
theorem numeric_commits (p : Pred) : ∀ r ∈ numeric p, ∀ (reg : Reg) (rm : RM) (s : State) (b : BitVec r.w),
    Ready (r.make reg rm) s → r.operand s rm b → Commits s (r.detected s reg b) (exec (r.make reg rm) s) := by
  simp only [numeric, List.forall_mem_append, List.forall_mem_map]
  refine ⟨⟨⟨⟨⟨⟨⟨⟨?packed, ?scalar⟩, ?comi⟩, ?cvt⟩, ?cvtScalar⟩, ?cvtFromGpr⟩, ?cvtToGpr⟩, ?cvtToMm⟩, ?cvtpi2ps⟩
  case packed =>
    intro r hr reg rm s b hready hb
    have hrun := fpRows_run p r hr
    rw [Ready, hrun.packedKlass] at hready
    rw [hrun.packedExec]
    exact fpPacked_commits (checkX_of_ready hready) (xmmOrMem128_of_holds hb)
  case scalar =>
    intro r hr reg rm s b hready hb
    have hrun := fpRows_run p r hr
    rw [Ready, hrun.scalarKlass] at hready
    rw [hrun.scalarExec]
    exact fpScalar_commits (checkX_of_ready hready) (xmmOrMem_of_holds hrun.bytes hb)
  case comi =>
    intro r hr reg rm s b hready hb
    have hrun := comiRows_run r hr
    rw [Ready, hrun.klass] at hready
    rw [hrun.exec]
    exact fpCompare_commits (checkX_of_ready hready) (xmmOrMem_of_holds hrun.bytes hb)
  case cvt =>
    simp only [cvtRows, List.forall_mem_cons]
    refine ⟨?_, ?_, ?_, ?_, ?_, ?_, ?_, ?_, nofun⟩
    all_goals
      intro reg rm s b hready hb
      exact cvtPacked_commits (checkX_of_ready hready) (packedSource_of_holds (by decide) hb)
  case cvtScalar =>
    simp only [cvtScalarRows, List.forall_mem_cons]
    refine ⟨?_, ?_, nofun⟩
    all_goals
      intro reg rm s b hready hb
      exact cvtScalar_commits (checkX_of_ready hready) (xmmOrMem_of_holds (by decide) hb)
  case cvtFromGpr =>
    simp only [cvtFromGprRows, List.forall_mem_cons]
    refine ⟨?_, ?_, nofun⟩
    all_goals
      intro reg rm s b hready hb
      exact cvtFromGpr_commits (checkX_of_ready hready) (gprOrMem_of_holds (by decide) hb)
  case cvtToGpr =>
    simp only [cvtToGprRows, List.forall_mem_cons]
    refine ⟨?_, ?_, ?_, ?_, nofun⟩
    all_goals
      intro reg rm s b hready hb
      exact cvtToGpr_commits (checkX_of_ready hready) (xmmOrMem_of_holds (by decide) hb)
  case cvtToMm =>
    simp only [cvtToMmRows, List.forall_mem_cons]
    refine ⟨?_, ?_, ?_, ?_, nofun⟩
    all_goals
      intro reg rm s b hready hb
      exact cvtToMm_commits (checkXM_of_ready hready) (packedSource_of_holds (by decide) hb)
  case cvtpi2ps =>
    simp only [List.forall_mem_singleton]
    intro reg rm s b hready hb
    exact execCvtpi2ps_commits (checkXM_of_ready hready) (mmOrMem_of_holds (by decide) hb)

/-- Settles O13: the commit faults, by the kind of the first condition that is not masked. -/
theorem numericFaults : Obligations.NumericFaults := by
  intro p r hr reg rm s b hready hb c
  have hcommits := numeric_commits p r hr reg rm s b hready hb
  exact ⟨hcommits.unmasked_pre, hcommits.unmasked_post⟩

end Sys2Proof.Machine
end

section
/-! SUPPORT. The four operations on numbers: what they deliver of an exact result other than zero, and the results that need no
rounding (41_fp_numerics.md rules R274, R279 to R281, R284 to R287). -/

namespace Sys2Proof.Machine

open Sys2Proof.Spec

section
variable {n : Nat} {f : Fmt n} {mx : Dword}

/-! ## A result that is delivered -/

/-- A lane is what is delivered of the exact result `num / den` units, other than zero, beside the conditions `c`. -/
def Delivers (f : Fmt n) (mx : Dword) (num den : Int) (c : BitVec 6) (r : Lane n) : Prop :=
  ∃ (neg : Bool) (u v : Nat), 0 < u ∧ 0 < v ∧ signedBy neg u = num ∧ (v : Int) = den ∧ deliver f mx neg u v c = r

section
variable {num den : Int} {c : BitVec 6} {r : Lane n} (hf : f.Wf) (h : Delivers f mx num den c r)
include hf h

theorem Delivers.resultRounds : ResultRounds f mx num den r := by
  obtain ⟨neg, u, v, hu, hv, rfl, rfl, rfl⟩ := h
  exact resultRounds_deliver hv hu hf

theorem Delivers.resultDetects : ResultDetects f mx num den c r := by
  obtain ⟨neg, u, v, hu, hv, rfl, rfl, rfl⟩ := h
  exact resultDetects_deliver hv hu hf

end

theorem not_denormal_of_expo {x : BitVec n} (h : f.expo x ≠ 0) : f.isDenormal x = false := by simp [Fmt.isDenormal, h]

theorem not_zero_of_expo {x : BitVec n} (h : f.expo x ≠ 0) : f.isZero x = false := by simp [Fmt.isZero, h]

theorem not_denormal_of_isZero {x : BitVec n} (h : f.isZero x = true) : f.isDenormal x = false := by
  simp [Fmt.isDenormal, (isZero_iff.mp h).2]

theorem Fmt.Wf.expo_maxFinite (hf : f.Wf) (neg : Bool) : f.expo (f.maxFinite neg) ≠ 0 := by
  have hinf := hf.inf_lt
  have hpos : 0 < f.top * 2 ^ f.t := Nat.mul_pos (by have := hf.top_pos; omega) (Nat.two_pow_pos _)
  have hle : 2 ^ f.t ≤ f.top * 2 ^ f.t - 1 := by
    have h2 : 2 * 2 ^ f.t ≤ f.top * 2 ^ f.t := Nat.mul_le_mul_right _ (by have := hf.top_pos; omega)
    have := Nat.two_pow_pos f.t
    omega
  rw [Fmt.maxFinite, hf.expo_signed neg (by omega)]
  exact (Nat.div_pos hle (Nat.two_pow_pos _)).ne'

theorem Fmt.Wf.expo_inf (hf : f.Wf) (neg : Bool) : f.expo (f.inf neg) ≠ 0 := by
  rw [(isInf_iff.mp (hf.isInf_inf neg)).1]
  have := hf.top_pos
  omega

theorem Fmt.Wf.expo_indefinite (hf : f.Wf) : f.expo f.indefinite ≠ 0 := by
  have htop := hf.top_add
  have hhalf : 2 ^ (f.t - 1) < 2 ^ f.t := Nat.pow_lt_pow_right (by decide) (by have := hf.fraction; omega)
  have hlt : f.top * 2 ^ f.t + 2 ^ (f.t - 1) < 2 ^ (f.w + f.t) := by
    rw [Nat.pow_add, ← htop, Nat.succ_mul f.top]
    omega
  rw [Fmt.indefinite, hf.expo_signed true hlt, Nat.mul_comm f.top, Nat.mul_add_div (Nat.two_pow_pos _)]
  exact (Nat.add_pos_left (Nat.zero_lt_of_lt hf.top_pos) _).ne'

theorem Fmt.Wf.expo_overflowBits (hf : f.Wf) (rc : BitVec 2) (neg : Bool) : f.expo (overflowBits f rc neg) ≠ 0 := by
  rcases rc_cases rc with rfl | rfl | rfl | rfl
  · exact hf.expo_inf neg
  · cases neg
    · exact hf.expo_maxFinite false
    · exact hf.expo_inf true
  · cases neg
    · exact hf.expo_inf false
    · exact hf.expo_maxFinite true
  · exact hf.expo_maxFinite neg

/-- Flushing to zero (R285): no denormal is delivered, and a zero only with underflow and precision detected. -/
theorem Delivers.flushed {num den : Int} {c : BitVec 6} {r : Lane n} (hf : f.Wf) (h : Delivers f mx num den c r)
    (hfz : mx.getLsbD 15 = true) (hum : mx.getLsbD 11 = true) :
    f.isDenormal r.bits = false ∧
      (f.isZero r.bits = true → r.conditions.getLsbD 4 = true ∧ r.conditions.getLsbD 5 = true) := by
  obtain ⟨neg, u, v, hu, hv, -, -, rfl⟩ := h
  by_cases hover : f.maxUnits < roundUnits f (mxRc mx) neg u v
  · rw [deliver_of_overflow hover]
    have hexpo := hf.expo_overflowBits (mxRc mx) neg
    exact ⟨not_denormal_of_expo hexpo, fun hz => nomatch hz.symm.trans (not_zero_of_expo hexpo)⟩
  have hmax := Nat.le_of_not_lt hover
  cases hfl : flushes f mx neg u v with
  | true =>
    rw [deliver_of_flushes hfl]
    refine ⟨not_denormal_of_isZero (hf.isZero_zero neg), fun _ => ?_⟩
    simp [condU, condP]
  | false =>
    have htiny : tiny f (mxRc mx) neg u v = false := by
      rwa [flushes, show mxUm mx = true from hum, show mxFz mx = true from hfz, Bool.and_true, Bool.and_true] at hfl
    have hnormal := le_roundUnits_of_not_tiny hv hf htiny
    have hexpo : f.expo (f.pack neg (roundUnits f (mxRc mx) neg u v)) ≠ 0 := by
      rw [hf.expo_pack neg hmax, if_neg (Nat.not_lt.mpr hnormal)]
      exact Nat.succ_ne_zero _
    rw [deliver_of_rounded hmax hfl]
    exact ⟨not_denormal_of_expo hexpo, fun hz => nomatch hz.symm.trans (not_zero_of_expo hexpo)⟩

/-! ## What the operations deliver -/

variable {a b : BitVec n}

theorem isZero_eq_false_iff {x : BitVec n} : f.isZero x = false ↔ f.value x ≠ 0 := by
  rw [Ne, value_eq_zero_iff, Bool.not_eq_true]

theorem units_pos {x : BitVec n} (h : f.value x ≠ 0) : 0 < f.units x :=
  Nat.pos_of_ne_zero fun h0 => h (value_eq_zero_iff.mpr (units_eq_zero_iff.mp h0))

theorem addNumbers_delivers {x y : BitVec n} (hx : f.isInf x = false) (hy : f.isInf y = false)
    (h : f.value x + f.value y ≠ 0) :
    Delivers f mx (f.value x + f.value y) 1 (denormal2 f x y) (addNumbers f mx x y) :=
  ⟨_, _, 1, Int.natAbs_pos.mpr h, Nat.one_pos, signedBy_natAbs _, rfl, (addNumbers_of_sum hx hy h).symm⟩

section
variable (hf : f.Wf) (ha : IsFinite f a) (hb : IsFinite f b)
include hf ha hb

theorem fadd_delivers (h : f.value (daz f mx a) + f.value (daz f mx b) ≠ 0) :
    Delivers f mx (f.value (daz f mx a) + f.value (daz f mx b)) 1 (denormals f mx a b) (fadd f mx a b) := by
  rw [fadd_eq hf ha.1 hb.1, ← denormal2_daz]
  exact addNumbers_delivers ((hf.isInf_daz mx a).trans ha.2) ((hf.isInf_daz mx b).trans hb.2) h

theorem fsub_delivers (h : f.value (daz f mx a) - f.value (daz f mx b) ≠ 0) :
    Delivers f mx (f.value (daz f mx a) - f.value (daz f mx b)) 1 (denormals f mx a b) (fsub f mx a b) := by
  rw [sub_eq_add_neg, ← hf.value_negate] at h ⊢
  rw [fsub_eq hf ha.1 hb.1, ← denormal2_daz, ← denormal2_negate hf]
  refine addNumbers_delivers ((hf.isInf_daz mx a).trans ha.2) ?_ h
  rw [hf.isInf_negate, hf.isInf_daz, hb.2]

theorem fmul_delivers (h : f.value (daz f mx a) * f.value (daz f mx b) ≠ 0) :
    Delivers f mx (f.value (daz f mx a) * f.value (daz f mx b)) (2 ^ f.scale) (denormals f mx a b) (fmul f mx a b) := by
  have hx := left_ne_zero_of_mul h
  have hy := right_ne_zero_of_mul h
  rw [fmul_of_finite hf ha hb (isZero_eq_false_iff.mpr hx) (isZero_eq_false_iff.mpr hy), denormal2_daz]
  refine ⟨_, _, _, Nat.mul_pos (units_pos hx) (units_pos hy), Nat.two_pow_pos _, ?_, by push_cast; rfl, rfl⟩
  rw [f.value_eq, f.value_eq, signedBy_mul, hf.neg_daz, hf.neg_daz]
  push_cast
  rfl

theorem fdiv_delivers (hx : f.value (daz f mx a) ≠ 0) (hy : f.value (daz f mx b) ≠ 0) :
    Delivers f mx (f.value (daz f mx a) * 2 ^ f.scale * (f.value (daz f mx b)).sign) |f.value (daz f mx b)|
      (denormals f mx a b) (fdiv f mx a b) := by
  have hsign : (f.value (daz f mx b)).sign = signedBy (f.neg b) 1 := by
    have hpos : (0 : Int) < f.units (daz f mx b) := Int.natCast_pos.mpr (units_pos hy)
    rw [f.value_eq, hf.neg_daz]
    cases f.neg b
    · exact Int.sign_eq_one_of_pos hpos
    · exact Int.sign_eq_neg_one_of_neg (by simpa using units_pos hy)
  rw [fdiv_of_finite hf ha hb (isZero_eq_false_iff.mpr hx) (isZero_eq_false_iff.mpr hy), denormal2_daz]
  refine ⟨_, _, _, Nat.mul_pos (units_pos hx) (Nat.two_pow_pos _), units_pos hy, ?_, (f.abs_value _).symm, rfl⟩
  rw [hsign, f.value_eq, signedBy_mul_right, signedBy_mul, hf.neg_daz, Int.mul_one]
  push_cast
  rfl

end

/-- The rounding of the four operations (R273, R284 to R286). -/
theorem arithmeticRounds (hf : f.Wf) : ArithmeticRounds f := by
  intro mx a b ha hb x y
  exact ⟨fun h => (fadd_delivers hf ha hb h).resultRounds hf, fun h => (fsub_delivers hf ha hb h).resultRounds hf,
    fun h => (fmul_delivers hf ha hb h).resultRounds hf, fun hx hy => (fdiv_delivers hf ha hb hx hy).resultRounds hf⟩

/-! ## Results that need no rounding (R279 to R281) -/

theorem zeroOf_eq (f : Fmt n) (neg : Bool) : f.zero neg = zeroOf n neg := congrArg (BitVec.ofNat n) (Nat.add_zero _)

/-- A sum of magnitude zero, by the operands (R279). -/
theorem addNumbers_of_cancelling {x y : BitVec n} (hx : f.isInf x = false) (hy : f.isInf y = false)
    (h : f.value x + f.value y = 0) :
    addNumbers f mx x y =
      ⟨if f.isZero x = true ∧ f.neg x = f.neg y then x else zeroOf n (decide (mx.extractLsb' 13 2 = 1#2)),
        denormal2 f x y⟩ := by
  have hzero : f.isZero x = true → f.isZero y = true := fun hx => by
    rw [← value_eq_zero_iff] at hx ⊢
    omega
  rw [addNumbers_of_zero_sum hx hy h, zeroOf_eq]
  congr 1
  by_cases hzx : f.isZero x = true
  · simp [hzx, hzero hzx]
    rfl
  · simp [hzx]
    rfl

theorem exactResults (hf : f.Wf) : ExactResults f := by
  intro mx a b hna hnb a' b' d down neg
  have hd : denormal2 f a' b' = d := denormal2_daz ..
  have hinf : ∀ {x : BitVec n}, f.isInf x = true → daz f mx x = x := hf.daz_of_isInf mx
  have hinfd : ∀ {x : BitVec n}, f.isInf x = true → f.isInf (daz f mx x) = true := fun h => (hf.isInf_daz mx _).trans h
  have hnegd : ∀ x : BitVec n, f.neg (daz f mx x) = x.msb := hf.neg_daz mx
  refine ⟨fun ha hsign => ?_, fun ha hb => ?_, fun ha hb h => ?_, fun ha hsign => ?_, fun ha hb => ?_, fun ha hb h => ?_,
    fun h => ?_, fun ha hb h => ?_, fun ha hb => ?_, fun ha hb => ?_, fun hza hzb => ?_⟩
  · rw [fadd_eq hf hna hnb, addNumbers_of_inf_left (hinfd ha), hd, hinf ha]
    rw [hf.isInf_daz, hnegd, hnegd]
    exact hsign
  · rw [fadd_eq hf hna hnb, addNumbers_of_inf_right ((hf.isInf_daz mx a).trans ha) (hinfd hb), hd, hinf hb]
  · rw [fadd_eq hf hna hnb, addNumbers_of_cancelling ((hf.isInf_daz mx a).trans ha.2) ((hf.isInf_daz mx b).trans hb.2) h,
      hd, hnegd, hnegd]
  · rw [fsub_eq hf hna hnb, addNumbers_of_inf_left (hinfd ha), denormal2_negate hf, hd, hinf ha]
    rw [hf.isInf_negate, hf.isInf_daz, hf.neg_negate, hnegd, hnegd]
    exact fun hb => Bool.eq_not.mpr (hsign hb)
  · have hneg := hf.eq_inf ((hf.isInf_negate b).trans hb)
    rw [fsub_eq hf hna hnb, addNumbers_of_inf_right ((hf.isInf_daz mx a).trans ha)
      ((hf.isInf_negate _).trans (hinfd hb)), denormal2_negate hf, hd, hinf hb, hneg, hf.neg_negate]
    rfl
  · have hsum : f.value (daz f mx a) + f.value (f.negate (daz f mx b)) = 0 := by
      rw [hf.value_negate, ← sub_eq_add_neg]
      exact h
    rw [fsub_eq hf hna hnb, addNumbers_of_cancelling ((hf.isInf_daz mx a).trans ha.2)
      ((hf.isInf_negate _).trans ((hf.isInf_daz mx b).trans hb.2)) hsum, denormal2_negate hf, hd, hf.neg_negate, hnegd,
      hnegd]
    simp only [Bool.eq_not, a', down]
  · rw [fmul_of_inf hf hna hnb h]
    exact congrArg _ hd
  · rw [mul_eq_zero, value_eq_zero_iff, value_eq_zero_iff] at h
    rw [fmul_of_zero hf ha hb h, zeroOf_eq]
    exact congrArg _ hd
  · rw [fdiv_of_inf_left hf hna hnb ha hb]
    exact congrArg _ hd
  · have hzb : f.isZero (daz f mx b) = false := by
      rw [hinf hb, isZero_of_not_finite hf (not_finite_of_isInf hb)]
    rw [fdiv_of_zero_quotient hf hna hnb ha hzb (.inl hb), zeroOf_eq]
    exact congrArg _ hd
  · have ha := ((hf.finite_daz mx a).mp (isFinite_of_isZero hf hza)).2
    rw [fdiv_of_zero_quotient hf hna hnb ha hzb (.inr hza), zeroOf_eq]
    exact congrArg _ hd

/-- Settles O55: what each operation delivers, and its other cases. -/
theorem arithmeticIsCorrectlyRounded : Obligations.ArithmeticIsCorrectlyRounded :=
  ⟨⟨arithmeticRounds single_wf, arithmeticRounds double_wf⟩, exactResults single_wf, exactResults double_wf⟩

/-! ## Conditions, and flushing to zero (R274, R284 to R287) -/

theorem addNumbers_of_zero_sum_not_denormal (hf : f.Wf) {x y : BitVec n} (hx : f.isInf x = false)
    (hy : f.isInf y = false) (h : f.value x + f.value y = 0) : f.isDenormal (addNumbers f mx x y).bits = false := by
  rw [addNumbers_of_cancelling hx hy h]
  dsimp only
  split
  · next hzero => exact not_denormal_of_isZero hzero.1
  · rw [← zeroOf_eq f]
    exact not_denormal_of_isZero (hf.isZero_zero _)

/-- A product of zeros, and a quotient of or by a zero, is a zero, an infinity or the indefinite value. -/
theorem fmul_of_zero_not_denormal (hf : f.Wf) (ha : IsFinite f a) (hb : IsFinite f b)
    (h : f.value (daz f mx a) * f.value (daz f mx b) = 0) : f.isDenormal (fmul f mx a b).bits = false := by
  rw [mul_eq_zero, value_eq_zero_iff, value_eq_zero_iff] at h
  rw [fmul_of_zero hf ha hb h]
  exact not_denormal_of_isZero (hf.isZero_zero _)

theorem fdiv_of_zero_not_denormal (hf : f.Wf) (ha : IsFinite f a) (hb : IsFinite f b)
    (h : f.value (daz f mx a) * f.value (daz f mx b) = 0) : f.isDenormal (fdiv f mx a b).bits = false := by
  rw [mul_eq_zero, value_eq_zero_iff, value_eq_zero_iff] at h
  cases hzb : f.isZero (daz f mx b) with
  | false =>
    rw [fdiv_of_zero_quotient hf ha.1 hb.1 ha.2 hzb (.inr (h.resolve_right (by simp [hzb])))]
    exact not_denormal_of_isZero (hf.isZero_zero _)
  | true =>
    cases hza : f.isZero (daz f mx a) with
    | false =>
      rw [fdiv_of_zero hf ha.1 hb.1 ha.2 hza hzb]
      exact not_denormal_of_expo (hf.expo_inf _)
    | true =>
      rw [fdiv_of_invalid hf ha.1 hb.1 (.inl ⟨hza, hzb⟩)]
      exact not_denormal_of_expo hf.expo_indefinite

/-- Flushing to zero, for a result whose exact value `x` is delivered if it is not zero. -/
theorem flushed_of_cases {x num den : Int} {c : BitVec 6} {r : Lane n} (hf : f.Wf)
    (hnonzero : x ≠ 0 → Delivers f mx num den c r) (hzero : x = 0 → f.isDenormal r.bits = false)
    (hfz : mx.getLsbD 15 = true) (hum : mx.getLsbD 11 = true) :
    f.isDenormal r.bits = false ∧
      (x ≠ 0 → f.isZero r.bits = true → r.conditions.getLsbD 4 = true ∧ r.conditions.getLsbD 5 = true) := by
  by_cases hx : x = 0
  · exact ⟨hzero hx, fun h => absurd hx h⟩
  · obtain ⟨hdenormal, hflags⟩ := (hnonzero hx).flushed hf hfz hum
    exact ⟨hdenormal, fun _ => hflags⟩

theorem outOfRangeRule (hf : f.Wf) : OutOfRangeRule f := by
  intro mx a b ha hb x y d
  refine ⟨fun h => (fadd_delivers hf ha hb h).resultDetects hf, fun h => (fsub_delivers hf ha hb h).resultDetects hf,
    fun h => (fmul_delivers hf ha hb h).resultDetects hf, fun hx hy => (fdiv_delivers hf ha hb hx hy).resultDetects hf, ?_⟩
  have hia : f.isInf (daz f mx a) = false := (hf.isInf_daz mx a).trans ha.2
  have hib : f.isInf (daz f mx b) = false := (hf.isInf_daz mx b).trans hb.2
  simp only [List.forall_mem_cons]
  refine ⟨?fadd, ?fsub, ?fmul, ?fdiv, nofun⟩
  case fadd =>
    refine flushed_of_cases hf (fadd_delivers hf ha hb) fun h => ?_
    rw [fadd_eq hf ha.1 hb.1]
    exact addNumbers_of_zero_sum_not_denormal hf hia hib h
  case fsub =>
    refine flushed_of_cases hf (fsub_delivers hf ha hb) fun h => ?_
    rw [fsub_eq hf ha.1 hb.1]
    refine addNumbers_of_zero_sum_not_denormal hf hia ((hf.isInf_negate _).trans hib) ?_
    rw [hf.value_negate, ← sub_eq_add_neg]
    exact h
  case fmul => exact flushed_of_cases hf (fmul_delivers hf ha hb) (fmul_of_zero_not_denormal hf ha hb)
  case fdiv =>
    exact flushed_of_cases hf (fun h => fdiv_delivers hf ha hb (left_ne_zero_of_mul h) (right_ne_zero_of_mul h))
      (fdiv_of_zero_not_denormal hf ha hb)

/-- Settles O57: all that a delivered result detects; where none is delivered, a zero, an infinity or the indefinite. -/
theorem overflowAndFlushToZero : Obligations.OverflowAndFlushToZero :=
  ⟨outOfRangeRule single_wf, outOfRangeRule double_wf⟩

end

end Sys2Proof.Machine
end

section
/-! SUPPORT. The square root (41_fp_numerics.md rule R282): the integer root, and that half a unit more than it, where it is not
exact, rounds as the exact root does. -/

namespace Sys2Proof.Machine

open Sys2Proof.Spec

/-! ## The integer root -/

/-- Bit by bit, the root stays below and comes within `2^k`, which at the end is one. -/
theorem sqrtBits_spec {x : Nat} : ∀ {k r : Nat}, r * r ≤ x → x < (r + 2 ^ k) * (r + 2 ^ k) →
    sqrtBits x k r * sqrtBits x k r ≤ x ∧ x < (sqrtBits x k r + 1) * (sqrtBits x k r + 1)
  | 0, _, hle, hlt => ⟨hle, hlt⟩
  | k + 1, r, hle, hlt => by
    rw [Nat.pow_succ, Nat.mul_two, ← Nat.add_assoc] at hlt
    unfold sqrtBits
    split
    · next h => exact sqrtBits_spec h hlt
    · next h => exact sqrtBits_spec hle (Nat.lt_of_not_le h)

theorem isqrt_spec (x : Nat) : isqrt x * isqrt x ≤ x ∧ x < (isqrt x + 1) * (isqrt x + 1) := by
  refine sqrtBits_spec (Nat.zero_le _) ?_
  rw [Nat.zero_add, ← Nat.pow_add]
  exact Nat.lt_of_lt_of_le Nat.lt_log2_self (Nat.pow_le_pow_right (by decide) (by omega))

/-- The exact root of `x`, in halves: twice the integer root, and one half more where that is not exact. -/
def rootHalves (x : Nat) : Nat := 2 * isqrt x + if isqrt x * isqrt x = x then 0 else 1

theorem mul_self_le_iff {x c : Nat} : c * c ≤ x ↔ c * 2 ≤ rootHalves x := by
  obtain ⟨hle, hlt⟩ := isqrt_spec x
  have hroot : c * c ≤ x ↔ c ≤ isqrt x :=
    ⟨fun h => Nat.le_of_lt_succ (Nat.mul_self_lt_mul_self_iff.mp (Nat.lt_of_le_of_lt h hlt)),
      fun h => Nat.le_trans (Nat.mul_self_le_mul_self h) hle⟩
  rw [hroot, rootHalves]
  split <;> omega

theorem le_mul_self_iff {x c : Nat} : x ≤ c * c ↔ rootHalves x ≤ c * 2 := by
  obtain ⟨hle, hlt⟩ := isqrt_spec x
  rw [rootHalves]
  split
  · next h =>
    have hroot : x ≤ c * c ↔ isqrt x ≤ c := by
      conv_lhs => rw [← h]
      exact Nat.mul_self_le_mul_self_iff
    omega
  · next h =>
    have hroot : x ≤ c * c ↔ isqrt x < c :=
      ⟨fun hc => Nat.lt_of_not_le fun hcr => h (Nat.le_antisymm hle (Nat.le_trans hc (Nat.mul_self_le_mul_self hcr))),
        fun hc => Nat.le_trans (Nat.le_of_lt hlt) (Nat.mul_self_le_mul_self hc)⟩
    omega

theorem mul_self_eq_iff {x c : Nat} : c * c = x ↔ c * 2 = rootHalves x := by
  rw [Nat.eq_iff_le_and_ge, Nat.eq_iff_le_and_ge, mul_self_le_iff, le_mul_self_iff]

/-! ## Rounding the root -/

section
variable {n : Nat} {f : Fmt n} {rc : BitVec 2} {x : Nat}

/-- From `2^(t + 1)` on, what fits is even. -/
theorem Fmt.Fits.even {u : Nat} (h : f.Fits u) (hle : 2 ^ (f.t + 1) ≤ u) : u % 2 = 0 := by
  obtain ⟨m, q, hm, rfl⟩ := h
  cases q with
  | zero => rw [Nat.pow_zero, Nat.mul_one] at hle; omega
  | succ q => rw [Nat.pow_succ, ← Nat.mul_assoc]; exact Nat.mul_mod_left ..

section
variable (hf : f.Wf) (hbig : 2 ^ (f.t + 1) * 2 ^ (f.t + 1) ≤ x)
include hf hbig

theorem le_rounded_root : 2 ^ (f.t + 1) ≤ roundUnits f rc false (rootHalves x) 2 :=
  le_roundUnits (by decide) hf (f.fits_two_pow _) (mul_self_le_iff.mp hbig)

theorem rounded_root_even : roundUnits f rc false (rootHalves x) 2 % 2 = 0 :=
  (fits_roundUnits (by decide)).even (le_rounded_root hf hbig)

/-- An even sum is twice a number, whose square is compared. -/
theorem rounded_root_nearest_even {y : Nat} (hy : f.Fits y) (heven : y % 2 = 0) :
    let u := roundUnits f 0#2 false (rootHalves x) 2
    (u < y → 4 * x ≤ (u + y) * (u + y)) ∧ (y < u → (u + y) * (u + y) ≤ 4 * x) := by
  intro u
  obtain ⟨habove, hbelow, -⟩ :=
    roundUnits_nearest (f := f) (neg := false) (num := rootHalves x) (den := 2) (by decide) hf y hy
  obtain ⟨c, hc⟩ : ∃ c, u + y = 2 * c := ⟨(u + y) / 2, by have : u % 2 = 0 := rounded_root_even hf hbig; omega⟩
  have hsquare : (u + y) * (u + y) = 4 * (c * c) := by rw [hc]; ring
  rw [hsquare]
  refine ⟨fun h => Nat.mul_le_mul_left 4 (le_mul_self_iff.mpr ?_), fun h => Nat.mul_le_mul_left 4 (mul_self_le_iff.mpr ?_)⟩
  · have := habove h
    omega
  · have := hbelow h
    omega

/-- To nearest, compared by squares: an odd number that fits lies below `2^(t + 1)`, which is even and not above the root. -/
theorem rounded_root_nearest {y : Nat} (hy : f.Fits y) :
    let u := roundUnits f 0#2 false (rootHalves x) 2
    (u < y → 4 * x ≤ (u + y) * (u + y)) ∧ (y < u → (u + y) * (u + y) ≤ 4 * x) := by
  intro u
  have hu : 2 ^ (f.t + 1) ≤ u := le_rounded_root hf hbig
  by_cases heven : y % 2 = 0
  · exact rounded_root_nearest_even hf hbig hy heven
  have hsmall : y < 2 ^ (f.t + 1) := Nat.lt_of_not_le fun h => heven (hy.even h)
  refine ⟨fun h => by omega, fun _ => ?_⟩
  refine Nat.le_trans (Nat.mul_self_le_mul_self (show u + y ≤ u + 2 ^ (f.t + 1) by omega)) ?_
  rcases Nat.lt_or_eq_of_le hu with hlt | heq
  · have hpow : 2 ^ (f.t + 1) % 2 = 0 := by rw [Nat.pow_succ]; exact Nat.mul_mod_left ..
    exact (rounded_root_nearest_even hf hbig (f.fits_two_pow _) hpow).2 hlt
  · rw [← heq]
    calc (2 ^ (f.t + 1) + 2 ^ (f.t + 1)) * (2 ^ (f.t + 1) + 2 ^ (f.t + 1))
        = 4 * (2 ^ (f.t + 1) * 2 ^ (f.t + 1)) := by ring
      _ ≤ 4 * x := Nat.mul_le_mul_left 4 hbig

end

theorem rounded_root_down (h0 : rc ≠ 0#2) (h : awayMode rc false = false) :
    let u := roundUnits f rc false (rootHalves x) 2
    u * u ≤ x ∧ ∀ y, f.Fits y → y * y ≤ x → y ≤ u := by
  obtain ⟨hle, hgreatest⟩ := roundUnits_toward (f := f) (num := rootHalves x) (den := 2) (by decide) h0 h
  exact ⟨mul_self_le_iff.mpr hle, fun y hy hsquare => hgreatest y hy (mul_self_le_iff.mp hsquare)⟩

theorem rounded_root_up (h : awayMode rc false = true) :
    let u := roundUnits f rc false (rootHalves x) 2
    x ≤ u * u ∧ ∀ y, f.Fits y → x ≤ y * y → u ≤ y := by
  obtain ⟨hle, hleast⟩ := roundUnits_away (f := f) (num := rootHalves x) (den := 2) (by decide) h
  exact ⟨le_mul_self_iff.mpr hle, fun y hy hsquare => hleast y hy (le_mul_self_iff.mp hsquare)⟩

/-! ## The root of a number of the format -/

/-- The square of the root, in units squared. -/
def rootSquare (f : Fmt n) (a : BitVec n) : Nat := f.units a * 2 ^ f.scale

section
variable {a : BitVec n} (hf : f.Wf)
include hf

theorem le_rootSquare (h : 0 < f.units a) : 2 ^ (f.t + 1) * 2 ^ (f.t + 1) ≤ rootSquare f a := by
  have hrange := hf.range
  rw [← Nat.pow_add]
  refine Nat.le_trans (Nat.pow_le_pow_right (by decide) ?_) (Nat.le_mul_of_pos_left _ h)
  unfold Fmt.scale
  omega

theorem rootSquare_lt (h : IsFinite f a) : rootSquare f a < 2 ^ (f.t + f.maxPlace) * 2 ^ (f.t + f.maxPlace) := by
  have hlt := Fmt.lt_of_le_maxUnits (hf.units_le_maxUnits h)
  have hexp : 2 ^ f.w = 2 * 2 ^ (f.w - 1) := by
    rw [← Nat.pow_succ', Nat.succ_eq_add_one, Nat.sub_add_cancel (by have := hf.exponent; omega)]
  have hfour : 4 ≤ 2 ^ (f.w - 1) := Nat.pow_le_pow_right (n := 2) (i := 2) (by decide) (by have := hf.exponent; omega)
  have htop := hf.top_add
  calc rootSquare f a < 2 ^ (f.t + 1 + f.maxPlace) * 2 ^ f.scale := Nat.mul_lt_mul_of_pos_right hlt (Nat.two_pow_pos _)
    _ = 2 ^ (f.t + 1 + f.maxPlace + f.scale) := (Nat.pow_add ..).symm
    _ ≤ 2 ^ (f.t + f.maxPlace + (f.t + f.maxPlace)) := by
        refine Nat.pow_le_pow_right (by decide) ?_
        unfold Fmt.scale Fmt.maxPlace
        omega
    _ = _ := Nat.pow_add ..

theorem rounded_root_le (h : IsFinite f a) : roundUnits f rc false (rootHalves (rootSquare f a)) 2 ≤ f.maxUnits := by
  exact Nat.le_trans (roundUnits_le (by decide) hf (f.fits_two_pow _)
    (le_mul_self_iff.mp (Nat.le_of_lt (rootSquare_lt hf h)))) f.two_pow_maxPlace_le

theorem root_not_tiny (h : 0 < f.units a) : tiny f rc false (rootHalves (rootSquare f a)) 2 = false := by
  have hle := mul_self_le_iff.mp (le_rootSquare hf h)
  rw [← Bool.not_eq_true, tiny_eq_true, not_and_or]
  exact .inl (Nat.not_lt.mpr (Nat.le_trans (Nat.mul_le_mul_right _ (Nat.pow_le_pow_right (by decide) (Nat.le_succ _))) hle))

/-- The root of a positive finite number: its rounding, D of a denormal operand, and P of an inexact root. -/
theorem fsqrt_of_pos {mx : Dword} (ha : IsFinite f a) (hza : f.isZero (daz f mx a) = false) (hneg : f.neg a = false) :
    fsqrt f mx a =
      ⟨f.pack false (roundUnits f (mxRc mx) false (rootHalves (rootSquare f (daz f mx a))) 2),
        condIf (f.isDenormal (daz f mx a)) condD |||
          condIf (inexactUnits f (mxRc mx) false (rootHalves (rootSquare f (daz f mx a))) 2) condP⟩ := by
  have hpos : 0 < f.units (daz f mx a) := units_pos (isZero_eq_false_iff.mp hza)
  have htiny := root_not_tiny (rc := mxRc mx) hf hpos
  rw [fsqrt_of_finite hf ha hza hneg]
  change deliver f mx false (rootHalves (rootSquare f (daz f mx a))) 2 _ = _
  rw [deliver_of_rounded (rounded_root_le hf ((hf.finite_daz mx a).mpr ha)) (by rw [flushes, htiny]; rfl), htiny]
  congr 2
  exact BitVec.or_zero

/-- The rule of the square root, for both formats. -/
theorem sqrtRounds : SqrtRounds f := by
  intro mx a a' square r v
  refine ⟨fun hz => fsqrt_of_zero hf hz, fun hi hneg => fsqrt_of_inf hf hi hneg, fun ha hpos => ?_⟩
  have hza : f.isZero a' = false := isZero_eq_false_iff.mpr hpos.ne'
  have hunits : 0 < f.units a' := units_pos hpos.ne'
  have hneg : f.neg a = false := by
    rw [← hf.neg_daz mx, ← signedBy_pos (Int.natCast_pos.mpr hunits), ← f.value_eq]
    exact hpos
  have hr : r = _ := fsqrt_of_pos hf ha hza hneg
  have hmax := rounded_root_le (rc := mxRc mx) hf ((hf.finite_daz mx a).mpr ha)
  have hbig := le_rootSquare hf hunits
  have hrootpos := le_rounded_root (rc := mxRc mx) hf hbig
  have hsquare : square = (rootSquare f a' : Int) := by
    simp only [square, value_of_nonneg hpos.le, rootSquare]
    push_cast
    rfl
  have hv : v = (roundUnits f (mxRc mx) false (rootHalves (rootSquare f a')) 2 : Int) := by
    simp only [v, hr]
    exact hf.value_pack false (fits_roundUnits (by decide)) hmax
  have hinexact : inexactUnits f (mxRc mx) false (rootHalves (rootSquare f a')) 2 = decide (v * v ≠ square) := by
    rw [inexactUnits, hv, hsquare]
    norm_cast
    simp only [mul_self_eq_iff]
  refine ⟨?finite, ?pos, ?conditions, ?nearest, ?down, ?up⟩
  case finite =>
    rw [hr]
    exact hf.finite_pack false hmax
  case pos =>
    have := Nat.two_pow_pos (f.t + 1)
    omega
  case conditions =>
    rw [denormals_self, hr]
    change _ ||| condIf (inexactUnits f (mxRc mx) false (rootHalves (rootSquare f a')) 2) condP = _
    rw [hinexact]
    simp only [condIf, condP, decide_eq_true_eq]
  case nearest =>
    intro hrc y _ hy
    have hnear := rounded_root_nearest hf hbig (f.fits_units y)
    rw [show (0#2 : BitVec 2) = mxRc mx from hrc.symm] at hnear
    rw [hv, hsquare, value_of_nonneg hy]
    exact_mod_cast hnear
  case down =>
    intro hrc
    have hmode : mxRc mx ≠ 0#2 ∧ awayMode (mxRc mx) false = false := by
      rcases hrc with h | h <;> rw [show mxRc mx = _ from h] <;> decide
    obtain ⟨hle, hgreatest⟩ := rounded_root_down (f := f) (x := rootSquare f a') hmode.1 hmode.2
    rw [hv, hsquare]
    refine ⟨by exact_mod_cast hle, fun y _ hy hsq => ?_⟩
    rw [value_of_nonneg hy] at hsq ⊢
    exact Int.ofNat_le.mpr (hgreatest _ (f.fits_units y) (by exact_mod_cast hsq))
  case up =>
    intro hrc
    have hmode : awayMode (mxRc mx) false = true := by rw [show mxRc mx = _ from hrc]; rfl
    obtain ⟨hle, hleast⟩ := rounded_root_up (f := f) (x := rootSquare f a') hmode
    rw [hv, hsquare]
    refine ⟨by exact_mod_cast hle, fun y _ hy hsq => ?_⟩
    rw [value_of_nonneg hy] at hsq ⊢
    exact Int.ofNat_le.mpr (hleast _ (f.fits_units y) (by exact_mod_cast hsq))

end

/-- Settles O56: the halves of the root that the model rounds compare as the root's square does. -/
theorem squareRootIsCorrectlyRounded : Obligations.SquareRootIsCorrectlyRounded :=
  ⟨sqrtRounds single_wf, sqrtRounds double_wf⟩

end

end Sys2Proof.Machine
end

section
/-! SUPPORT. Floating point to integer (41_fp_numerics.md rule R290): the whole number to which the statement rounds is the only
one of its kind, and the model's. -/

namespace Sys2Proof.Machine

open Sys2Proof.Spec

/-! ## Rounding to a whole number -/

/-- No whole number to which a quotient rounds is above another. -/
theorem roundsToInt_le {rc : BitVec 2} {num den m k : Int} (hden : 0 < den) (hm : RoundsToInt rc num den m)
    (hk : RoundsToInt rc num den k) : m ≤ k := by
  obtain ⟨hm0, hm1, hm2, hm3⟩ := hm
  obtain ⟨hk0, hk1, hk2, hk3⟩ := hk
  by_contra hlt
  have hstep : (k + 1) * den ≤ m * den := Int.mul_le_mul_of_nonneg_right (by omega) hden.le
  rw [Int.add_mul, Int.one_mul] at hstep
  rcases rc_cases rc with rfl | rfl | rfl | rfl
  · obtain ⟨hmd, hmtie⟩ := hm0 rfl
    obtain ⟨hkd, hktie⟩ := hk0 rfl
    have hma := le_abs_self (m * den - num)
    have hka := neg_le_abs (k * den - num)
    have hmeven := hmtie (by omega)
    have hkeven := hktie (by omega)
    have hstep2 : (k + 2) * den ≤ m * den := Int.mul_le_mul_of_nonneg_right (by omega) hden.le
    rw [Int.add_mul] at hstep2
    omega
  · have := (hm1 rfl).1
    have := (hk1 rfl).2
    rw [Int.add_mul, Int.one_mul] at this
    omega
  · have := (hm2 rfl).1
    have := (hk2 rfl).2
    rw [Int.sub_mul, Int.one_mul] at *
    omega
  · exact hlt (hm3 rfl ▸ hk3 rfl ▸ Int.le_refl _)

theorem roundsToInt_unique {rc : BitVec 2} {num den m k : Int} (hden : 0 < den) (hm : RoundsToInt rc num den m)
    (hk : RoundsToInt rc num den k) : m = k :=
  Int.le_antisymm (roundsToInt_le hden hm hk) (roundsToInt_le hden hk hm)

/-- The model's rounding of a magnitude, with the sign, is the statement's. -/
theorem roundsToInt_roundQuotient (rc : BitVec 2) (neg : Bool) (num : Nat) {den : Nat} (hden : 0 < den) :
    RoundsToInt rc (signedBy neg num) den (signedBy neg (roundQuotient rc neg num den : Nat)) := by
  unfold RoundsToInt
  refine ⟨?nearest, ?down, ?up, ?zero⟩
  case nearest =>
    rintro rfl
    obtain ⟨habove, hbelow, heven⟩ := roundQuotient_nearest_spec neg num hden
    rw [signedBy_mul_right, signedBy_sub, abs_signedBy]
    generalize roundQuotient 0#2 neg num den = m at *
    zify at habove hbelow heven
    refine ⟨by rcases abs_cases ((m : Int) * den - num) with h | h <;> omega, fun htie => ?_⟩
    have hm : (m : Int) % 2 = 0 := heven (by rcases abs_cases ((m : Int) * den - num) with h | h <;> omega)
    cases neg
    · exact hm
    · rw [signedBy_true]
      omega
  case down =>
    rintro rfl
    cases neg with
    | false =>
      obtain ⟨hle, hlt⟩ := roundQuotient_toward_spec (rc := 1#2) (neg := false) (by decide) rfl num hden
      zify at hle hlt
      simp only [signedBy_false, Int.add_mul, Int.one_mul]
      exact ⟨hle, hlt⟩
    | true =>
      obtain ⟨hle, hlt⟩ := roundQuotient_away_spec (rc := 1#2) (neg := true) rfl num hden
      zify at hle hlt
      simp only [signedBy_true, Int.add_mul, Int.one_mul, Int.neg_mul]
      omega
  case up =>
    rintro rfl
    cases neg with
    | false =>
      obtain ⟨hle, hlt⟩ := roundQuotient_away_spec (rc := 2#2) (neg := false) rfl num hden
      zify at hle hlt
      simp only [signedBy_false, Int.sub_mul, Int.one_mul]
      omega
    | true =>
      obtain ⟨hle, hlt⟩ := roundQuotient_toward_spec (rc := 2#2) (neg := true) (by decide) rfl num hden
      zify at hle hlt
      simp only [signedBy_true, Int.sub_mul, Int.one_mul, Int.neg_mul]
      omega
  case zero =>
    rintro rfl
    rw [roundQuotient_toward (by decide) rfl]
    cases neg with
    | false => exact Int.ofNat_tdiv ..
    | true => exact (congrArg Neg.neg (Int.ofNat_tdiv ..)).trans (Int.neg_tdiv ..).symm

/-! ## The conversion -/

section
variable {n : Nat} {f : Fmt n}

theorem roundsToInt_toInteger (f : Fmt n) (mx : Dword) (rc : BitVec 2) (a : BitVec n) :
    RoundsToInt rc (f.value (daz f mx a)) (2 ^ f.scale) (toInteger f mx rc a) := by
  have h := roundsToInt_roundQuotient rc (f.neg (daz f mx a)) (f.units (daz f mx a)) (Nat.two_pow_pos f.scale)
  rwa [Nat.cast_pow] at h

theorem toIntegerRule (hf : f.Wf) : ToIntegerRule f := by
  intro mx rc a
  refine ⟨fun h => f2i_of_outside hf (.inl h), fun ha m hm => ?_⟩
  obtain rfl : m = toInteger f mx rc a := roundsToInt_unique (by positivity) hm (roundsToInt_toInteger ..)
  refine ⟨fun h => f2i_of_outside hf (.inr h), fun hlow hhigh => ?_⟩
  rw [f2i_of_inside hf ha hlow hhigh]
  refine ⟨BitVec.toInt_ofInt_eq_self (by decide) hlow (by omega), ?_⟩
  have hexact : toInteger f mx rc a * 2 ^ f.scale = f.value (daz f mx a) ↔
      roundQuotient rc (f.neg (daz f mx a)) (f.units (daz f mx a)) (2 ^ f.scale) * 2 ^ f.scale = f.units (daz f mx a) := by
    rw [toInteger, f.value_eq, signedBy_mul_right, signedBy_inj]
    norm_cast
  simp only [condIf, condP, Ne, hexact, decide_eq_true_eq]

/-- Settles O58: by the whole number that the model rounds to, in range or not. -/
theorem floatToInteger : Obligations.FloatToInteger := ⟨toIntegerRule single_wf, toIntegerRule double_wf⟩

end

end Sys2Proof.Machine
end

section
/-! SUPPORT. Integer to floating point, and between the two formats (41_fp_numerics.md rules R291, R292). -/

namespace Sys2Proof.Machine

open Sys2Proof.Spec

section
variable {n : Nat} {f : Fmt n}

/-! ## Integer to floating point (R291) -/

theorem signedBy_msb_natAbs (x : Dword) : signedBy x.msb x.toInt.natAbs = x.toInt := by
  rw [BitVec.msb_eq_toInt]
  exact signedBy_natAbs x.toInt

theorem natAbs_toInt_le (x : Dword) : x.toInt.natAbs ≤ 2 ^ 31 := by
  have := x.le_toInt
  have := x.toInt_lt
  omega

theorem natAbs_toInt_pos {x : Dword} (h : x ≠ 0#32) : 0 < x.toInt.natAbs :=
  Int.natAbs_pos.mpr fun h0 => h (BitVec.eq_of_toInt_eq h0)

/-- The exact magnitude of a converted integer, in units. -/
def intUnits (f : Fmt n) (x : Dword) : Nat := x.toInt.natAbs * 2 ^ f.scale

theorem signedBy_intUnits (f : Fmt n) (x : Dword) : signedBy x.msb (intUnits f x) = x.toInt * 2 ^ f.scale := by
  rw [intUnits, Nat.cast_mul, ← signedBy_mul_right, signedBy_msb_natAbs, Nat.cast_pow]
  rfl

theorem i2f_zero (f : Fmt n) (mx : Dword) : i2f f mx 0#32 = ⟨f.zero false, 0#6⟩ := if_pos rfl

section
variable (hf : f.Wf) (hwide : 31 + f.scale ≤ f.t + f.maxPlace) {mx x : Dword}
include hf hwide

theorem rounded_intUnits_le (rc : BitVec 2) (x : Dword) : roundUnits f rc x.msb (intUnits f x) 1 ≤ f.maxUnits := by
  have hle : intUnits f x ≤ 2 ^ (31 + f.scale) * 1 := by
    rw [Nat.mul_one, Nat.pow_add]
    exact Nat.mul_le_mul_right _ (natAbs_toInt_le x)
  exact (roundUnits_le Nat.one_pos hf (f.fits_two_pow _) hle).trans
    ((Nat.pow_le_pow_right (by decide) hwide).trans f.two_pow_maxPlace_le)

/-- An integer other than 0: its rounding, and P of an inexact one. -/
theorem i2f_of_ne_zero (hx : x ≠ 0#32) :
    i2f f mx x =
      ⟨f.pack x.msb (roundUnits f (mxRc mx) x.msb (intUnits f x) 1),
        condIf (inexactUnits f (mxRc mx) x.msb (intUnits f x) 1) condP⟩ := by
  have htiny : tiny f (mxRc mx) x.msb (intUnits f x) 1 = false := by
    have hle : 2 ^ f.t ≤ 2 ^ f.scale := Nat.pow_le_pow_right (by decide) (Nat.le_add_left ..)
    rw [← Bool.not_eq_true, tiny_eq_true, not_and_or, Nat.mul_one]
    exact .inl (Nat.not_lt.mpr (hle.trans (Nat.le_mul_of_pos_left _ (natAbs_toInt_pos hx))))
  unfold i2f
  rw [if_neg hx]
  change deliver f mx x.msb (intUnits f x) 1 0#6 = _
  rw [deliver_of_rounded (rounded_intUnits_le hf hwide (mxRc mx) x) (by rw [flushes, htiny]; rfl), htiny]
  simp only [Bool.false_and, condIf, Bool.false_eq_true, if_false, BitVec.zero_or]

theorem i2f_value (hx : x ≠ 0#32) :
    f.value (i2f f mx x).bits = signedBy x.msb (roundUnits f (mxRc mx) x.msb (intUnits f x) 1) := by
  rw [i2f_of_ne_zero hf hwide hx]
  exact hf.value_pack _ (fits_roundUnits Nat.one_pos) (rounded_intUnits_le hf hwide _ x)

theorem i2f_msb (hx : x ≠ 0#32) : (i2f f mx x).bits.msb = x.msb := by
  rw [i2f_of_ne_zero hf hwide hx]
  exact hf.neg_pack _ (rounded_intUnits_le hf hwide _ x)

theorem i2f_roundsTo (hx : x ≠ 0#32) : RoundsTo f (mx.extractLsb' 13 2) (x.toInt * 2 ^ f.scale) 1 (i2f f mx x).bits := by
  have hpos : 0 < intUnits f x := Nat.mul_pos (natAbs_toInt_pos hx) (Nat.two_pow_pos _)
  have h := roundsTo_pack hf hpos Nat.one_pos (rounded_intUnits_le hf hwide (mxRc mx) x)
  rw [signedBy_intUnits, Nat.cast_one] at h
  rw [i2f_of_ne_zero hf hwide hx]
  exact h

theorem i2f_conditions (hx : x ≠ 0#32) :
    (i2f f mx x).conditions = if f.value (i2f f mx x).bits ≠ x.toInt * 2 ^ f.scale then 0x20#6 else 0#6 := by
  have hexact : f.value (i2f f mx x).bits = x.toInt * 2 ^ f.scale ↔
      roundUnits f (mxRc mx) x.msb (intUnits f x) 1 * 1 = intUnits f x := by
    rw [i2f_value hf hwide hx, ← signedBy_intUnits, signedBy_inj, Nat.mul_one]
    exact Int.natCast_inj
  simp only [Ne, hexact]
  rw [i2f_of_ne_zero hf hwide hx]
  simp only [inexactUnits, condIf, condP, decide_eq_true_eq, Ne]

/-- With more than 31 significant bits the conversion is exact. -/
theorem i2f_exact (hbits : 31 ≤ f.t + 1) (mx x : Dword) :
    f.value (i2f f mx x).bits = x.toInt * 2 ^ f.scale ∧ IsFinite f (i2f f mx x).bits ∧ (i2f f mx x).conditions = 0#6 ∧
      (i2f f mx x).bits.msb = x.msb := by
  by_cases hx : x = 0#32
  · subst hx
    rw [i2f_zero]
    refine ⟨?_, isFinite_of_isZero hf (hf.isZero_zero _), rfl, hf.neg_zero false⟩
    rw [value_eq_zero_iff.mpr (hf.isZero_zero _)]
    exact (Int.zero_mul _).symm
  · have hfits : f.Fits (intUnits f x) :=
      (Fmt.fits_of_le ((natAbs_toInt_le x).trans (Nat.pow_le_pow_right (by decide) hbits))).mul_two_pow _
    have hvalue : f.value (i2f f mx x).bits = x.toInt * 2 ^ f.scale := by
      rw [i2f_value hf hwide hx, roundUnits_of_fits Nat.one_pos hf hfits (Nat.mul_one _).symm, signedBy_intUnits]
    refine ⟨hvalue, (i2f_roundsTo hf hwide hx).1, ?_, i2f_msb hf hwide hx⟩
    rw [i2f_conditions hf hwide hx, if_neg (not_not.mpr hvalue)]

end

/-! ## The pattern of a converted NaN -/

theorem Fmt.frac_extract (f : Fmt n) (x : BitVec n) {i l : Nat} (h : i + l ≤ f.t) :
    (x.extractLsb' i l).toNat = f.frac x / 2 ^ i % 2 ^ l := by
  obtain ⟨k, hk⟩ := Nat.exists_eq_add_of_le h
  have hpow : 2 ^ f.t = 2 ^ i * (2 ^ l * 2 ^ k) := by rw [hk, Nat.pow_add, Nat.pow_add, Nat.mul_assoc]
  rw [BitVec.extractLsb'_toNat, Nat.shiftRight_eq_div_pow, Fmt.frac, hpow, Nat.mod_mul_right_div_self,
    Nat.mod_mod_of_dvd _ (Nat.dvd_mul_right ..)]

/-- The pattern of a NaN, before it is made quiet. -/
def Fmt.nanWith (f : Fmt n) (neg : Bool) (frac : Nat) : BitVec n := f.signed neg (f.top * 2 ^ f.t + frac)

section
variable (hf : f.Wf) (neg : Bool) {frac : Nat} (h : frac < 2 ^ f.t)
include hf h

theorem Fmt.Wf.nanWith_lt : f.top * 2 ^ f.t + frac < 2 ^ (f.w + f.t) := by
  rw [Nat.pow_add, ← hf.top_add, Nat.succ_mul f.top]
  exact Nat.add_lt_add_left h _

theorem Fmt.Wf.neg_nanWith : f.neg (f.nanWith neg frac) = neg := hf.neg_signed neg (hf.nanWith_lt h)

theorem Fmt.Wf.expo_nanWith : f.expo (f.nanWith neg frac) = f.top := by
  rw [Fmt.nanWith, hf.expo_signed neg (hf.nanWith_lt h), Nat.mul_comm, Nat.mul_add_div (Nat.two_pow_pos _),
    Nat.div_eq_of_lt h, Nat.add_zero]

theorem Fmt.Wf.frac_nanWith : f.frac (f.nanWith neg frac) = frac := by
  rw [Fmt.nanWith, hf.frac_signed neg (hf.nanWith_lt h), Nat.mul_comm, Nat.mul_add_mod, Nat.mod_eq_of_lt h]

theorem Fmt.Wf.msb_quiet_nanWith : (f.quiet (f.nanWith neg frac)).msb = neg := by
  have hbit : (BitVec.ofNat n (2 ^ (f.t - 1))).msb = false := by
    rw [BitVec.msb_eq_getLsbD_last, BitVec.getLsbD_ofNat, Nat.testBit_two_pow_of_ne, Bool.and_false]
    have := hf.pred_width
    have := hf.fraction
    omega
  rw [Fmt.quiet, BitVec.msb_or, hbit, Bool.or_false]
  exact hf.neg_nanWith neg h

/-- The exponent stays all ones. -/
theorem Fmt.Wf.expo_quiet_nanWith : (f.quiet (f.nanWith neg frac)).extractLsb' f.t f.w = BitVec.allOnes f.w := by
  have hones : (f.nanWith neg frac).extractLsb' f.t f.w = BitVec.allOnes f.w := by
    apply BitVec.eq_of_toNat_eq
    rw [← f.expo_eq_extract, hf.expo_nanWith neg h, BitVec.toNat_allOnes]
    rfl
  rw [Fmt.quiet, BitVec.extractLsb'_or, hones, BitVec.allOnes_or]

/-- Bits of the fraction, with the quiet bit among them or not. -/
theorem Fmt.Wf.extract_quiet_nanWith {i l : Nat} (hil : i + l ≤ f.t) :
    (f.quiet (f.nanWith neg frac)).extractLsb' i l =
      BitVec.ofNat l (frac / 2 ^ i) ||| (BitVec.ofNat n (2 ^ (f.t - 1))).extractLsb' i l := by
  have hlow : (f.nanWith neg frac).extractLsb' i l = BitVec.ofNat l (frac / 2 ^ i) := by
    apply BitVec.eq_of_toNat_eq
    rw [f.frac_extract _ hil, hf.frac_nanWith neg h, BitVec.toNat_ofNat]
  rw [Fmt.quiet, BitVec.extractLsb'_or, hlow]

end

theorem ofNat_frac_div (f : Fmt n) (x : BitVec n) {i l : Nat} (h : i + l ≤ f.t) :
    BitVec.ofNat l (f.frac x / 2 ^ i) = x.extractLsb' i l := by
  apply BitVec.eq_of_toNat_eq
  rw [f.frac_extract x h, BitVec.toNat_ofNat]

end

/-! ## Single to double (R292) -/

section
variable {mx x : Dword}

theorem s2d_of_nan (h : single.isNan x = true) :
    s2d mx x =
      ⟨double.quiet (double.nanWith x.msb (single.frac x * 2 ^ 29)), condIf (single.isSNan x) condI⟩ := by
  simp only [s2d, dazOperand_eq, single_wf.daz_of_isNan mx h, h, if_true]
  rfl

theorem s2d_of_inf (h : single.isInf x = true) : s2d mx x = ⟨double.inf x.msb, 0#6⟩ := by
  simp [s2d, dazOperand_eq, single_wf.daz_of_isInf mx h, isNan_of_isInf h, h]

theorem msb_daz_single (mx x : Dword) : (daz single mx x).msb = x.msb := single_wf.neg_daz mx x

theorem s2d_of_zero (h : single.isZero (daz single mx x) = true) : s2d mx x = ⟨double.zero x.msb, 0#6⟩ := by
  have hfinite := isFinite_of_isZero single_wf h
  simp [s2d, dazOperand_eq, hfinite.1, hfinite.2, h, msb_daz_single]

theorem s2d_of_finite (ha : IsFinite single x) (h : single.isZero (daz single mx x) = false) :
    s2d mx x =
      ⟨double.pack x.msb (single.units (daz single mx x) * 2 ^ (double.scale - single.scale)),
        condIf (single.isDenormal (daz single mx x)) condD⟩ := by
  have hfinite := (single_wf.finite_daz mx x).mpr ha
  simp [s2d, dazOperand_eq, hfinite.1, hfinite.2, h, msb_daz_single]

/-- Double precision holds every single-precision magnitude. -/
theorem widened_fits (x : Dword) : double.Fits (single.units x * 2 ^ (double.scale - single.scale)) := by
  obtain ⟨m, q, hm, hu⟩ := single.fits_units x
  rw [hu]
  refine Fmt.Fits.mul_two_pow ⟨m, q, hm.trans_le (Nat.pow_le_pow_right (by decide) (by decide)), rfl⟩ _

theorem widened_le (hx : IsFinite single x) : single.units x * 2 ^ (double.scale - single.scale) ≤ double.maxUnits := by
  have hlt := Fmt.lt_of_le_maxUnits (single_wf.units_le_maxUnits hx)
  calc single.units x * 2 ^ (double.scale - single.scale)
      ≤ 2 ^ (single.t + 1 + single.maxPlace) * 2 ^ (double.scale - single.scale) := Nat.mul_le_mul_right _ hlt.le
    _ = 2 ^ (single.t + 1 + single.maxPlace + (double.scale - single.scale)) := by rw [← Nat.pow_add]
    _ ≤ 2 ^ (double.t + double.maxPlace) := Nat.pow_le_pow_right (by decide) (by decide)
    _ ≤ double.maxUnits := double.two_pow_maxPlace_le

end

/-- The rule for single to double. -/
theorem s2d_rule (mx x : Dword) : let r := s2d mx x
    (single.isNan x = true → r.bits.msb = x.msb ∧ r.bits.extractLsb' 52 11 = BitVec.allOnes 11 ∧
      r.bits.extractLsb' 29 23 = x.extractLsb' 0 23 ||| 0x400000#23 ∧ r.bits.extractLsb' 0 29 = 0#29 ∧
      r.conditions = if single.isSNan x = true then 0x01#6 else 0#6) ∧
    (single.isInf x = true → double.isInf r.bits = true ∧ r.bits.msb = x.msb ∧ r.conditions = 0#6) ∧
    (IsFinite single x → IsFinite double r.bits ∧ r.bits.msb = x.msb ∧
      double.value r.bits = single.value (daz single mx x) * 2 ^ (double.scale - single.scale) ∧
      r.conditions = if single.isDenormal (daz single mx x) = true then 0x02#6 else 0#6) := by
  intro r
  refine ⟨fun hnan => ?nan, fun hinf => ?inf, fun hfin => ?finite⟩
  case nan =>
    have hr : r = _ := s2d_of_nan hnan
    have hfrac : single.frac x * 2 ^ 29 < 2 ^ double.t := by
      have := single.frac_lt x
      rw [show double.t = single.t + 29 from rfl, Nat.pow_add]
      exact Nat.mul_lt_mul_of_pos_right this (by decide)
    have hhigh : (BitVec.ofNat 64 (2 ^ (double.t - 1))).extractLsb' 29 23 = 0x400000#23 := by decide
    have hlow : (BitVec.ofNat 64 (2 ^ (double.t - 1))).extractLsb' 0 29 = 0#29 := by decide
    rw [hr]
    refine ⟨double_wf.msb_quiet_nanWith _ hfrac, double_wf.expo_quiet_nanWith _ hfrac, ?_, ?_, rfl⟩
    · rw [double_wf.extract_quiet_nanWith _ hfrac (by decide), hhigh, Nat.mul_div_cancel _ (by decide),
        ← ofNat_frac_div single x (i := 0) (by decide), Nat.pow_zero, Nat.div_one]
    · rw [double_wf.extract_quiet_nanWith _ hfrac (by decide), hlow, BitVec.or_zero]
      apply BitVec.eq_of_toNat_eq
      rw [BitVec.toNat_ofNat, Nat.pow_zero, Nat.div_one]
      exact Nat.mul_mod_left ..
  case inf =>
    have hr : r = _ := s2d_of_inf hinf
    rw [hr]
    exact ⟨double_wf.isInf_inf _, double_wf.neg_inf _, rfl⟩
  case finite =>
    cases hz : single.isZero (daz single mx x) with
    | true =>
      have hr : r = _ := s2d_of_zero hz
      have hzero := double_wf.isZero_zero x.msb
      rw [hr, value_eq_zero_iff.mpr hz, Int.zero_mul, not_denormal_of_isZero hz]
      exact ⟨isFinite_of_isZero double_wf hzero, double_wf.neg_zero _, value_eq_zero_iff.mpr hzero, rfl⟩
    | false =>
      have hr : r = _ := s2d_of_finite hfin hz
      have hmax := widened_le ((single_wf.finite_daz mx x).mpr hfin)
      rw [hr]
      refine ⟨double_wf.finite_pack _ hmax, double_wf.neg_pack _ hmax, ?_, rfl⟩
      rw [double_wf.value_pack _ (widened_fits _) hmax, single.value_eq, signedBy_mul_right, single_wf.neg_daz]
      push_cast
      rfl

/-! ## Double to single (R292) -/

section
variable {mx : Dword} {x : Qword}

theorem d2s_of_nan (h : double.isNan x = true) :
    d2s mx x =
      ⟨single.quiet (single.nanWith x.msb (double.frac x / 2 ^ 29)), condIf (double.isSNan x) condI⟩ := by
  simp only [d2s, dazOperand_eq, double_wf.daz_of_isNan mx h, h, if_true]
  rfl

theorem d2s_of_inf (h : double.isInf x = true) : d2s mx x = ⟨single.inf x.msb, 0#6⟩ := by
  simp [d2s, dazOperand_eq, double_wf.daz_of_isInf mx h, isNan_of_isInf h, h]

theorem msb_daz_double (mx : Dword) (x : Qword) : (daz double mx x).msb = x.msb := double_wf.neg_daz mx x

theorem d2s_of_zero (h : double.isZero (daz double mx x) = true) : d2s mx x = ⟨single.zero x.msb, 0#6⟩ := by
  have hfinite := isFinite_of_isZero double_wf h
  simp [d2s, dazOperand_eq, hfinite.1, hfinite.2, h, msb_daz_double]

theorem d2s_delivers (hx : IsFinite double x) (h : double.value (daz double mx x) ≠ 0) :
    Delivers single mx (double.value (daz double mx x)) (2 ^ (double.scale - single.scale)) (denormals double mx x x)
      (d2s mx x) := by
  have hfinite := (double_wf.finite_daz mx x).mpr hx
  refine ⟨x.msb, double.units (daz double mx x), 2 ^ (double.scale - single.scale), units_pos h, Nat.two_pow_pos _, ?_,
    by push_cast; rfl, ?_⟩
  · rw [double.value_eq, double_wf.neg_daz]
    rfl
  · rw [denormals_self]
    simp [d2s, dazOperand_eq, hfinite.1, hfinite.2, isZero_eq_false_iff.mpr h, msb_daz_double]

end

/-- The rule for double to single. -/
theorem d2s_rule (mx : Dword) (x : Qword) : let r := d2s mx x
    (double.isNan x = true → r.bits.msb = x.msb ∧ r.bits.extractLsb' 23 8 = BitVec.allOnes 8 ∧
      r.bits.extractLsb' 0 23 = x.extractLsb' 29 23 ||| 0x400000#23 ∧
      r.conditions = if double.isSNan x = true then 0x01#6 else 0#6) ∧
    (double.isInf x = true → single.isInf r.bits = true ∧ r.bits.msb = x.msb ∧ r.conditions = 0#6) ∧
    (IsFinite double x →
      let num := double.value (daz double mx x)
      let den := 2 ^ (double.scale - single.scale)
      (num ≠ 0 → ResultRounds single mx num den r ∧ ResultDetects single mx num den (denormals double mx x x) r) ∧
      (double.isZero (daz double mx x) = true →
        single.isZero r.bits = true ∧ r.bits.msb = x.msb ∧ r.conditions = 0#6)) := by
  intro r
  refine ⟨fun hnan => ?nan, fun hinf => ?inf, fun hfin => ⟨fun hnum => ?number, fun hz => ?zero⟩⟩
  case nan =>
    have hr : r = _ := d2s_of_nan hnan
    have hfrac : double.frac x / 2 ^ 29 < 2 ^ single.t := by
      have := double.frac_lt x
      rw [show double.t = 29 + single.t from rfl, Nat.pow_add] at this
      exact Nat.div_lt_of_lt_mul this
    have hquiet : (BitVec.ofNat 32 (2 ^ (single.t - 1))).extractLsb' 0 23 = 0x400000#23 := by decide
    rw [hr]
    refine ⟨single_wf.msb_quiet_nanWith _ hfrac, single_wf.expo_quiet_nanWith _ hfrac, ?_, rfl⟩
    rw [single_wf.extract_quiet_nanWith _ hfrac (by decide), hquiet, Nat.pow_zero, Nat.div_one,
      ofNat_frac_div double x (by decide)]
  case inf =>
    have hr : r = _ := d2s_of_inf hinf
    rw [hr]
    exact ⟨single_wf.isInf_inf _, single_wf.neg_inf _, rfl⟩
  case number => exact ⟨(d2s_delivers hfin hnum).resultRounds single_wf, (d2s_delivers hfin hnum).resultDetects single_wf⟩
  case zero =>
    have hr : r = _ := d2s_of_zero hz
    rw [hr]
    exact ⟨single_wf.isZero_zero _, single_wf.neg_zero _, rfl⟩

/-- Settles O59: the conversions one by one. -/
theorem wideningAndNarrowing : Obligations.WideningAndNarrowing := by
  intro mx
  have hsingle : 31 + single.scale ≤ single.t + single.maxPlace := by decide
  refine ⟨i2f_exact double_wf (by decide) (by decide) mx, fun x hx => ?_, i2f_zero single mx, s2d_rule mx, d2s_rule mx⟩
  exact ⟨i2f_roundsTo single_wf hsingle hx, i2f_msb single_wf hsingle hx, i2f_conditions single_wf hsingle hx⟩

end Sys2Proof.Machine
end

section
/-! SUPPORT. The reciprocal approximations (41_fp_numerics.md rule R293): their special operands, and that the bound holds of the
free value that passes the test and of the rounded quotient that stands in for one that does not. -/

namespace Sys2Proof.Machine

open Sys2Proof.Spec

/-! ## The relative error of a rounding -/

section
variable {n : Nat} {f : Fmt n} {rc : BitVec 2} {neg : Bool} {num den : Nat}

/-- A quotient that is not tiny lies within one of `2^t` parts of its rounding, in every mode. -/
theorem roundUnits_relative (hden : 0 < den) (h : 2 ^ f.t * den ≤ num) :
    (2 ^ f.t - 1) * num ≤ 2 ^ f.t * (roundUnits f rc neg num den * den) ∧
      2 ^ f.t * (roundUnits f rc neg num den * den) ≤ (2 ^ f.t + 1) * num := by
  have hb := bracket_lowSteps f num hden
  have hq := roundQuotient_cases rc neg num (den * 2 ^ dropBits f num den)
  have hnormal : 2 ^ f.t ≤ lowSteps f num den := by
    rcases Nat.eq_zero_or_pos (dropBits f num den) with h0 | hpos
    · rw [lowSteps, h0, Nat.pow_zero, Nat.mul_one]
      exact (Nat.le_div_iff_mul_le hden).mpr h
    · exact hb.norm hpos
  have hlow := hb.low
  have hhigh := hb.high
  have hstep : 2 ^ f.t * (2 ^ dropBits f num den * den) ≤ lowSteps f num den * 2 ^ dropBits f num den * den := by
    rw [Nat.mul_assoc]
    exact Nat.mul_le_mul_right _ hnormal
  have hsucc : (lowSteps f num den + 1) * 2 ^ dropBits f num den * den =
      lowSteps f num den * 2 ^ dropBits f num den * den + 2 ^ dropBits f num den * den := by ring
  have hu : roundUnits f rc neg num den * den = lowSteps f num den * 2 ^ dropBits f num den * den ∨
      roundUnits f rc neg num den * den = (lowSteps f num den + 1) * 2 ^ dropBits f num den * den :=
    hq.imp (fun h => by rw [roundUnits, h]; rfl) fun h => by rw [roundUnits, h]; rfl
  rw [hsucc] at hhigh hu
  generalize lowSteps f num den * 2 ^ dropBits f num den * den = lo at *
  generalize 2 ^ dropBits f num den * den = step at *
  generalize roundUnits f rc neg num den * den = u at *
  have hpos := Nat.two_pow_pos f.t
  generalize 2 ^ f.t = e at *
  have hmul : e * num ≤ e * (lo + step) := Nat.mul_le_mul_left e hhigh.le
  have hmul' : e * lo ≤ e * num := Nat.mul_le_mul_left e hlow
  rw [Nat.mul_add] at hmul
  rw [Nat.sub_mul, Nat.add_mul, Nat.one_mul]
  rcases hu with rfl | rfl
  · omega
  · rw [Nat.mul_add]
    omega

theorem two_pow_le_units {x : BitVec n} (h : f.expo x ≠ 0) : 2 ^ f.t ≤ f.units x := by
  rw [Fmt.units, if_neg h]
  exact (Nat.le_add_right _ _).trans (Nat.le_mul_of_pos_right _ (Nat.two_pow_pos _))

end

/-! ## The rounded quotient of 1 -/

theorem daz_mxReset (x : Dword) : daz single mxReset x = x := if_neg fun h => absurd h.1 (by decide)

theorem two_pow_single_t : 2 ^ single.t = 8388608 := rfl

theorem two_scale_eq : 2 * single.scale = single.scale + 126 + single.t := rfl

theorem units_oneS : single.units oneS = 2 ^ single.scale := by decide

/-- `1/y` rounded: finite, of the sign of `y`, and within `2^-23` of the exact quotient. -/
theorem recip_spec {y : Dword} (hy : IsFinite single y) (hlow : 2 ^ single.t ≤ single.units y)
    (hhigh : single.units y ≤ 2 ^ (single.scale + 126)) :
    let r := (fdiv single mxReset oneS y).bits
    IsFinite single r ∧ single.neg r = single.neg y ∧
      8388607 * 2 ^ (2 * single.scale) ≤ 8388608 * (single.units r * single.units y) ∧
      8388608 * (single.units r * single.units y) ≤ 8388609 * 2 ^ (2 * single.scale) := by
  intro r
  have hpos : 0 < single.units y := (Nat.two_pow_pos _).trans_le hlow
  have hone : IsFinite single oneS := ⟨by decide, by decide⟩
  have hzero : single.isZero (daz single mxReset y) = false := by
    rw [daz_mxReset, ← Bool.not_eq_true, ← units_eq_zero_iff]
    exact hpos.ne'
  have hnum : 2 ^ single.scale * 2 ^ single.scale = 2 ^ (2 * single.scale) := by rw [← Nat.pow_add, Nat.two_mul]
  have hdiv := fdiv_of_finite (mx := mxReset) single_wf hone hy (by decide) hzero
  rw [daz_mxReset, daz_mxReset, units_oneS, hnum, show single.neg oneS = false from by decide, Bool.false_bne] at hdiv
  have hmax : roundUnits single (mxRc mxReset) (single.neg y) (2 ^ (2 * single.scale)) (single.units y) ≤
      single.maxUnits := by
    refine (roundUnits_le hpos single_wf (single.fits_two_pow (single.scale + 126)) ?_).trans
      ((Nat.pow_le_pow_right (by decide) (by decide)).trans single.two_pow_maxPlace_le)
    calc 2 ^ (2 * single.scale) = 2 ^ (single.scale + 126) * 2 ^ single.t := by rw [← Nat.pow_add, two_scale_eq]
      _ ≤ 2 ^ (single.scale + 126) * single.units y := Nat.mul_le_mul_left _ hlow
  have hflush : flushes single mxReset (single.neg y) (2 ^ (2 * single.scale)) (single.units y) = false := by
    rw [flushes, show mxFz mxReset = false by decide, Bool.and_false]
  rw [deliver_of_rounded hmax hflush] at hdiv
  have hrel := roundUnits_relative (f := single) (rc := mxRc mxReset) (neg := single.neg y)
    (num := 2 ^ (2 * single.scale)) hpos (by
      calc 2 ^ single.t * single.units y ≤ 2 ^ single.t * 2 ^ (single.scale + 126) := Nat.mul_le_mul_left _ hhigh
        _ = 2 ^ (2 * single.scale) := by rw [Nat.mul_comm, ← Nat.pow_add, two_scale_eq])
  have hr : r = _ := congrArg Lane.bits hdiv
  rw [hr]
  refine ⟨single_wf.finite_pack _ hmax, single_wf.neg_pack _ hmax, ?_⟩
  rw [single_wf.units_pack _ (fits_roundUnits hpos) hmax]
  simp only [two_pow_single_t, Nat.reduceSub, Nat.reduceAdd] at hrel
  exact hrel

/-! ## RCP -/

section
variable {x : Dword}

theorem rcpWithin_iff {r : Dword} :
    rcpWithin x r = true ↔ single.neg r = single.neg x ∧ IsFinite single r ∧
      8189 * 2 ^ (2 * single.scale) ≤ 8192 * (single.units r * single.units x) ∧
      8192 * (single.units r * single.units x) ≤ 8195 * 2 ^ (2 * single.scale) := by
  simp only [rcpWithin, IsFinite, Bool.and_eq_true, beq_iff_eq, Bool.not_eq_true', decide_eq_true_eq, and_assoc]

/-- A normal number up to `2^126`. -/
theorem rcp32_within (hx : IsFinite single x) (hexpo : single.expo x ≠ 0)
    (hhigh : single.units x ≤ 2 ^ (single.scale + 126)) : rcpWithin x (rcp32 x) = true := by
  have hrcp : rcp32 x = if rcpWithin x (Config.rcpRaw x) then Config.rcpRaw x else (fdiv single mxReset oneS x).bits := by
    simp only [rcp32, hx.1, hx.2, not_zero_of_expo hexpo, not_denormal_of_expo hexpo, Nat.not_lt.mpr hhigh,
      Bool.or_false, Bool.false_eq_true, if_false]
  rw [hrcp]
  split
  · next h => exact h
  · obtain ⟨hfinite, hneg, hlow, hup⟩ := recip_spec hx (two_pow_le_units hexpo) hhigh
    refine rcpWithin_iff.mpr ⟨hneg, hfinite, ?_⟩
    generalize 2 ^ (2 * single.scale) = one at *
    omega

end

/-! ## RSQRT -/

section
variable {x : Dword}

theorem rsqrtWithin_iff {r : Dword} :
    rsqrtWithin x r = true ↔ single.neg r = false ∧ IsFinite single r ∧
      8189 ^ 2 * 2 ^ (3 * single.scale) ≤ 8192 ^ 2 * (single.units r * single.units r * single.units x) ∧
      8192 ^ 2 * (single.units r * single.units r * single.units x) ≤ 8195 ^ 2 * 2 ^ (3 * single.scale) := by
  simp only [rsqrtWithin, IsFinite, Bool.and_eq_true, Bool.not_eq_true', decide_eq_true_eq, and_assoc]

theorem rootHalves_bounds (w : Nat) : 2 * isqrt w ≤ rootHalves w ∧ rootHalves w ≤ 2 * isqrt w + 1 := by
  unfold rootHalves
  split <;> omega

/-- The rounded root `s` of `w`, squared, is within `2^-13` of `w`. -/
theorem rounded_root_bounds {w : Nat} {rc : BitVec 2} (hbig : 2 ^ (single.t + 1) * 2 ^ (single.t + 1) ≤ w) :
    let s := roundUnits single rc false (rootHalves w) 2
    16384 ^ 2 * (s * s) ≤ 16385 ^ 2 * w ∧ 16383 ^ 2 * w ≤ 16384 ^ 2 * (s * s) := by
  intro s
  obtain ⟨hle, hlt⟩ := isqrt_spec w
  obtain ⟨hlow, hhigh⟩ := rootHalves_bounds w
  have hroot := mul_self_le_iff.mp hbig
  have hrel := roundUnits_relative (f := single) (rc := rc) (neg := false) (num := rootHalves w) (den := 2) (by decide)
    ((Nat.mul_le_mul_right _ (Nat.pow_le_pow_right (by decide) (Nat.le_succ _))).trans hroot)
  rw [two_pow_single_t] at hrel
  rw [Nat.pow_succ, two_pow_single_t] at hroot
  have hup : 16384 * s ≤ 16385 * isqrt w := by omega
  have hdown : 16383 * (isqrt w + 1) ≤ 16384 * s := by omega
  constructor
  · calc 16384 ^ 2 * (s * s) = 16384 * s * (16384 * s) := by ring
      _ ≤ 16385 * isqrt w * (16385 * isqrt w) := Nat.mul_self_le_mul_self hup
      _ = 16385 ^ 2 * (isqrt w * isqrt w) := by ring
      _ ≤ 16385 ^ 2 * w := Nat.mul_le_mul_left _ hle
  · calc 16383 ^ 2 * w ≤ 16383 ^ 2 * ((isqrt w + 1) * (isqrt w + 1)) := Nat.mul_le_mul_left _ hlt.le
      _ = 16383 * (isqrt w + 1) * (16383 * (isqrt w + 1)) := by ring
      _ ≤ 16384 * s * (16384 * s) := Nat.mul_self_le_mul_self hdown
      _ = 16384 ^ 2 * (s * s) := by ring

/-- If `r * s` is near `t` and `s * s` is near `w`, then `r * r * w` is near `t * t`. -/
theorem rsqrt_error {r s t w : Nat} (hlow : 16383 * t ≤ 16384 * (r * s)) (hhigh : 16384 * (r * s) ≤ 16385 * t)
    (hslow : 16384 ^ 2 * (s * s) ≤ 16385 ^ 2 * w) (hshigh : 16383 ^ 2 * w ≤ 16384 ^ 2 * (s * s)) :
    8189 ^ 2 * (t * t) ≤ 8192 ^ 2 * (r * r * w) ∧ 8192 ^ 2 * (r * r * w) ≤ 8195 ^ 2 * (t * t) := by
  have hdown : 16383 ^ 2 * (t * t) ≤ 16385 ^ 2 * (r * r * w) := by
    calc 16383 ^ 2 * (t * t) = 16383 * t * (16383 * t) := by ring
      _ ≤ 16384 * (r * s) * (16384 * (r * s)) := Nat.mul_self_le_mul_self hlow
      _ = r * r * (16384 ^ 2 * (s * s)) := by ring
      _ ≤ r * r * (16385 ^ 2 * w) := Nat.mul_le_mul_left _ hslow
      _ = 16385 ^ 2 * (r * r * w) := by ring
  have hup : 16383 ^ 2 * (r * r * w) ≤ 16385 ^ 2 * (t * t) := by
    calc 16383 ^ 2 * (r * r * w) = r * r * (16383 ^ 2 * w) := by ring
      _ ≤ r * r * (16384 ^ 2 * (s * s)) := Nat.mul_le_mul_left _ hshigh
      _ = 16384 * (r * s) * (16384 * (r * s)) := by ring
      _ ≤ 16385 * t * (16385 * t) := Nat.mul_self_le_mul_self hhigh
      _ = 16385 ^ 2 * (t * t) := by ring
  constructor <;> omega

/-- The root of a single-precision number is at most `2^213` units. -/
theorem rounded_root_le_two_pow (hx : IsFinite single x) {rc : BitVec 2} :
    roundUnits single rc false (rootHalves (rootSquare single x)) 2 ≤ 2 ^ 213 := by
  refine roundUnits_le (by decide) single_wf (single.fits_two_pow 213) (le_mul_self_iff.mp ?_)
  rw [← Nat.pow_add]
  calc rootSquare single x ≤ 2 ^ (single.t + 1 + single.maxPlace) * 2 ^ single.scale :=
        Nat.mul_le_mul_right _ (Fmt.lt_of_le_maxUnits (single_wf.units_le_maxUnits hx)).le
    _ = 2 ^ (single.t + 1 + single.maxPlace + single.scale) := by rw [← Nat.pow_add]
    _ ≤ 2 ^ (213 + 213) := Nat.pow_le_pow_right (by decide) (by decide)

/-- A positive normal number. -/
theorem rsqrt32_within (hx : IsFinite single x) (hexpo : single.expo x ≠ 0) (hneg : single.neg x = false) :
    rsqrtWithin x (rsqrt32 x) = true := by
  have hmsb : x.msb = false := hneg
  have hrsqrt : rsqrt32 x =
      if rsqrtWithin x (Config.rsqrtRaw x) then Config.rsqrtRaw x
      else (fdiv single mxReset oneS (fsqrt single mxReset x).bits).bits := by
    simp only [rsqrt32, hx.1, hx.2, hmsb, not_zero_of_expo hexpo, not_denormal_of_expo hexpo,
      Bool.or_false, Bool.false_eq_true, if_false]
  rw [hrsqrt]
  split
  · next h => exact h
  have hunits : 0 < single.units x := (Nat.two_pow_pos _).trans_le (two_pow_le_units hexpo)
  have hsqrt := fsqrt_of_pos (mx := mxReset) single_wf hx
    (by rw [daz_mxReset]; exact not_zero_of_expo hexpo) hneg
  have hbig := le_rootSquare single_wf hunits
  have hmax := rounded_root_le (rc := mxRc mxReset) single_wf hx
  have hslow := le_rounded_root (rc := mxRc mxReset) single_wf hbig
  obtain ⟨hs1, hs2⟩ := rounded_root_bounds (rc := mxRc mxReset) hbig
  rw [daz_mxReset] at hsqrt
  rw [hsqrt]
  have hsmall : roundUnits single (mxRc mxReset) false (rootHalves (rootSquare single x)) 2 ≤ 2 ^ (single.scale + 126) :=
    (rounded_root_le_two_pow hx).trans (Nat.pow_le_pow_right (by decide) (by decide))
  have hsunits := single_wf.units_pack false (fits_roundUnits (f := single) (rc := mxRc mxReset) (neg := false)
    (num := rootHalves (rootSquare single x)) (den := 2) (by decide)) hmax
  generalize roundUnits single (mxRc mxReset) false (rootHalves (rootSquare single x)) 2 = s at *
  obtain ⟨hfinite, hrneg, hrlow, hrup⟩ := recip_spec (single_wf.finite_pack false hmax)
    (by rw [hsunits]; exact (Nat.pow_le_pow_right (by decide) (Nat.le_succ _)).trans hslow) (by rw [hsunits]; exact hsmall)
  rw [hsunits] at hrlow hrup
  refine rsqrtWithin_iff.mpr ⟨hrneg.trans (single_wf.neg_pack false hmax), hfinite, ?_⟩
  generalize single.units (fdiv single mxReset oneS (single.pack false s)).bits = r at *
  have hnear : 16383 * 2 ^ (2 * single.scale) ≤ 16384 * (r * s) ∧ 16384 * (r * s) ≤ 16385 * 2 ^ (2 * single.scale) := by
    generalize 2 ^ (2 * single.scale) = one at *
    omega
  obtain ⟨hlow, hup⟩ := rsqrt_error hnear.1 hnear.2 hs1 hs2
  have hpow : 2 ^ (2 * single.scale) * 2 ^ (2 * single.scale) = 2 ^ (3 * single.scale) * 2 ^ single.scale := by
    rw [← Nat.pow_add, ← Nat.pow_add]
    congr 1
  have hpos := Nat.two_pow_pos single.scale
  have hw : r * r * rootSquare single x = r * r * single.units x * 2 ^ single.scale := (Nat.mul_assoc ..).symm
  rw [hpow, hw, ← Nat.mul_assoc (8189 ^ 2), ← Nat.mul_assoc (8192 ^ 2)] at hlow
  rw [hpow, hw, ← Nat.mul_assoc (8192 ^ 2), ← Nat.mul_assoc (8195 ^ 2)] at hup
  exact ⟨Nat.le_of_mul_le_mul_right hlow hpos, Nat.le_of_mul_le_mul_right hup hpos⟩

end

/-! ## The statement -/

section
variable {x : Dword}

theorem signBit_single (x : Dword) : x &&& 0x80000000#32 = single.zero x.msb := and_signBit single x

theorem inf_single (neg : Bool) : single.inf neg = single.zero neg ||| 0x7F800000#32 := by
  revert neg
  decide

theorem approximations_of_nan (h : single.isNan x = true) :
    rcp32 x = x ||| 0x400000#32 ∧ rsqrt32 x = x ||| 0x400000#32 := ⟨if_pos h, if_pos h⟩

theorem approximations_of_small (h : single.isZero x = true ∨ single.isDenormal x = true) :
    rcp32 x = single.inf x.msb ∧ rsqrt32 x = single.inf x.msb := by
  have hnan : single.isNan x = false :=
    (isFinite_of_expo_zero single_wf (h.elim (fun h => (isZero_iff.mp h).1) fun h => (isDenormal_iff.mp h).1)).1
  have hor : (single.isZero x || single.isDenormal x) = true := by simpa using h
  simp only [rcp32, rsqrt32, hnan, hor, Bool.false_eq_true, if_false, if_true, and_self]

theorem not_small_of_isInf (h : single.isInf x = true) : (single.isZero x || single.isDenormal x) = false := by
  have hfinite := not_finite_of_isInf h
  rw [isZero_of_not_finite single_wf hfinite, isDenormal_of_not_finite single_wf hfinite, Bool.or_self]

theorem rcp32_of_inf (h : single.isInf x = true) : rcp32 x = single.zero x.msb := by
  simp only [rcp32, isNan_of_isInf h, not_small_of_isInf h, h, Bool.false_eq_true, if_false, if_true]

theorem rsqrt32_of_inf (h : single.isInf x = true) (hneg : x.msb = false) : rsqrt32 x = single.zero false := by
  simp only [rsqrt32, isNan_of_isInf h, not_small_of_isInf h, h, hneg, Bool.false_eq_true, if_false, if_true]

theorem rsqrt32_of_neg (hnan : single.isNan x = false) (hz : single.isZero x = false) (hd : single.isDenormal x = false)
    (hneg : x.msb = true) : rsqrt32 x = single.indefinite := by
  simp only [rsqrt32, hnan, hz, hd, hneg, Bool.or_self, Bool.false_eq_true, if_false, if_true]

/-- Beyond `2^126` the reciprocal is a zero. -/
theorem rcp32_of_large (hx : IsFinite single x) (hz : single.isZero x = false) (hd : single.isDenormal x = false)
    (h : 2 ^ (single.scale + 126) < single.units x) : rcp32 x = single.zero x.msb := by
  simp only [rcp32, hx.1, hx.2, hz, hd, h, Bool.or_self, Bool.false_eq_true, if_false, if_true]

theorem expo_of_normal (hz : single.isZero x = false) (hd : single.isDenormal x = false) : single.expo x ≠ 0 := by
  intro h
  simp [Fmt.isZero, h] at hz
  simp [Fmt.isDenormal, h, hz] at hd

theorem two_pow_275 : (2 : Int) ^ 275 = ((2 ^ (single.scale + 126) : Nat) : Int) := by
  rw [show single.scale + 126 = 275 from rfl, Nat.cast_pow, Nat.cast_ofNat]

/-- The test of the model is the statement's bound. -/
theorem rcp_bound {r : Dword} (h : rcpWithin x r = true) :
    IsFinite single r ∧ r.msb = x.msb ∧
      8192 * |single.value r * single.value x - 2 ^ (2 * single.scale)| ≤ 3 * 2 ^ (2 * single.scale) := by
  obtain ⟨hneg, hfinite, hlow, hhigh⟩ := rcpWithin_iff.mp h
  refine ⟨hfinite, hneg, ?_⟩
  have hprod : single.value r * single.value x = (single.units r * single.units x : Nat) := by
    rw [single.value_eq, single.value_eq, signedBy_mul, hneg, bne_self_eq_false, signedBy_false, Nat.cast_mul]
  have hone : (2 : Int) ^ (2 * single.scale) = (2 ^ (2 * single.scale) : Nat) := by rw [Nat.cast_pow]; rfl
  rw [hprod, hone]
  generalize 2 ^ (2 * single.scale) = one at *
  generalize single.units r * single.units x = p at *
  rcases abs_cases ((p : Int) - one) with ⟨habs, -⟩ | ⟨habs, -⟩
  · omega
  · omega

theorem rsqrt_bound {r : Dword} (h : rsqrtWithin x r = true) (hpos : 0 < single.value x) :
    IsFinite single r ∧ 0 < single.value r ∧
      8189 ^ 2 * 2 ^ (3 * single.scale) ≤ 8192 ^ 2 * (single.value r * single.value r * single.value x) ∧
      8192 ^ 2 * (single.value r * single.value r * single.value x) ≤ 8195 ^ 2 * 2 ^ (3 * single.scale) := by
  obtain ⟨hneg, hfinite, hlow, hhigh⟩ := rsqrtWithin_iff.mp h
  have hr : single.value r = single.units r := by rw [single.value_eq, hneg]; rfl
  have hx : single.value x = single.units x := value_of_nonneg hpos.le
  have hone : (2 : Int) ^ (3 * single.scale) = (2 ^ (3 * single.scale) : Nat) := by rw [Nat.cast_pow]; rfl
  have honepos := Nat.two_pow_pos (3 * single.scale)
  rw [hr, hx, hone]
  generalize 2 ^ (3 * single.scale) = one at *
  refine ⟨hfinite, Int.natCast_pos.mpr (Nat.pos_of_ne_zero fun h0 => ?_), by exact_mod_cast hlow, by exact_mod_cast hhigh⟩
  simp only [h0, Nat.zero_mul] at hlow
  omega

end

/-- Settles O60: operand by operand; where the bound is claimed, the test holds of what is delivered. -/
theorem reciprocalApproximations : Obligations.ReciprocalApproximations := by
  intro x
  refine ⟨approximations_of_nan, fun h => ?small, fun h => ?inf, fun h => ?plusInf, fun hneg hnan hz hd => ?neg,
    fun hx hz hd => ⟨fun h => ?large, fun h => ?rcp, fun h => ?rsqrt⟩⟩
  case small =>
    rw [signBit_single, ← inf_single]
    exact approximations_of_small h
  case inf =>
    rw [signBit_single]
    exact rcp32_of_inf h
  case plusInf =>
    subst h
    exact rsqrt32_of_inf (by decide) (by decide)
  case neg => exact rsqrt32_of_neg hnan hz hd hneg
  case large =>
    rw [signBit_single]
    rw [single.abs_value, two_pow_275] at h
    exact rcp32_of_large hx hz hd (Int.ofNat_lt.mp h)
  case rcp =>
    rw [single.abs_value, two_pow_275] at h
    exact rcp_bound (rcp32_within hx (expo_of_normal hz hd) (Int.ofNat_le.mp h))
  case rsqrt =>
    have hneg : single.neg x = false := by
      have hunits := units_pos h.ne'
      rwa [single.value_eq, signedBy_pos (Int.natCast_pos.mpr hunits)] at h
    exact rsqrt_bound (rsqrt32_within hx (expo_of_normal hz hd) hneg) h

end Sys2Proof.Machine
end

section
/-! SUPPORT. The moves to XMM registers, but the stores to memory: words, sign masks, whole registers, the low part, one
quadword (42_sse_fp.md rules R334 to R346, 44_sse2_fp.md rules R453 to R463, 47_sse2_int128_new.md rules R613 to R625). -/

namespace Sys2Proof.Machine

open Sys2Proof.Spec

/-! ## Words and sign masks (R346, R463, R613, R614, R619) -/

/-- Bit `i` of a sign mask is the top bit of lane `i`, and zero past the last lane. -/
theorem getLsbD_signMask {k w i : Nat} (hw : 0 < w) (a : BitVec k) (hi : i < 32) :
    (signMask w a).getLsbD i = (decide (i < k / w) && a.getLsbD (w * i + (w - 1))) := by
  have hmsb : (lane w i a).msb = a.getLsbD (w * i + (w - 1)) := by simp [BitVec.msb_eq_getLsbD_last, lane, hw]
  rw [signMask, getLsbD_ofLanes Nat.one_pos, ← hmsb]
  by_cases h : i < k / w <;> simp [lanes, Nat.mod_one, hi, h]

/-- The low bits of an immediate, which select a word (R613, R614). -/
theorem toNat_immLow (imm : Imm8) (n : Nat) : (imm.extractLsb' 0 n).toNat = imm.toNat % 2 ^ n := by
  rw [BitVec.extractLsb'_toNat, Nat.shiftRight_zero]

section
variable {s : State} (hready : ReadyX .sse2 s)
include hready

theorem exec_pinsrwXmm {reg : Reg} {rm : RM} {imm : Imm8} {x : BitVec 16} (hx : s.gprOrMem 16 rm = .ok x) :
    exec (.pinsrwXmm reg rm imm) s = .next (s.writeXmm reg (setLane 16 (imm.toNat % 8) x (s.readXmm reg))) :=
  settle_afterX hready (by rw [hx, toNat_immLow]; rfl)

theorem exec_pextrwXmm (reg rm : Reg) (imm : Imm8) :
    exec (.pextrwXmm reg rm imm) s =
      .next (s.writeGpr reg ((lane 16 (imm.toNat % 8) (s.readXmm rm)).setWidth 32)) :=
  settle_afterX hready (by rw [toNat_immLow]; rfl)

theorem exec_pmovmskbXmm (reg rm : Reg) :
    exec (.pmovmskbXmm reg rm) s = .next (s.writeGpr reg (signMask 8 (s.readXmm rm))) :=
  settle_afterX hready rfl

theorem exec_movmskpd (reg rm : Reg) :
    exec (.movmskpd reg rm) s = .next (s.writeGpr reg (signMask 64 (s.readXmm rm))) :=
  settle_afterX hready rfl

end

section
variable {s : State} (hready : ReadyX .sse s) (reg rm : Reg)
include hready

theorem exec_movmskps : exec (.movmskps reg rm) s = .next (s.writeGpr reg (signMask 32 (s.readXmm rm))) :=
  settle_afterX hready rfl

theorem exec_movhlps :
    exec (.movhlps reg rm) s = .next (s.writeXmm reg (setLane 64 0 (lane 64 1 (s.readXmm rm)) (s.readXmm reg))) :=
  settle_afterX hready rfl

theorem exec_movlhps :
    exec (.movlhps reg rm) s = .next (s.writeXmm reg (setLane 64 1 (lane 64 0 (s.readXmm rm)) (s.readXmm reg))) :=
  settle_afterX hready rfl

end

/-- Settles O34: a word set or read at the immediate's place, and the sign masks bit by bit. -/
theorem xmmWordsAndMasks : Obligations.XmmWordsAndMasks := by
  refine fun s => ⟨fun hready => ⟨fun reg rm imm x hx => ?pinsrw, fun reg rm imm => ?pextrw, fun reg rm => ?pmovmskb,
    fun reg rm => ?movmskpd⟩, fun hready reg rm => ?movmskps⟩
  case pinsrw =>
    exact ⟨_, _, exec_pinsrwXmm hready (gprOrMem_of_holds (by decide) hx), wroteXmm_writeXmm ..,
      fun i hi => lane_setLane (by decide) _ _ hi⟩
  case pextrw =>
    rw [BitVec.ofNat_toNat]
    exact ⟨_, exec_pextrwXmm hready reg rm imm, wroteGpr_writeGpr ..⟩
  case pmovmskb =>
    exact ⟨_, _, exec_pmovmskbXmm hready reg rm, wroteGpr_writeGpr .., fun i hi => getLsbD_signMask (by decide) _ hi⟩
  case movmskpd =>
    exact ⟨_, _, exec_movmskpd hready reg rm, wroteGpr_writeGpr .., fun i hi => getLsbD_signMask (by decide) _ hi⟩
  case movmskps =>
    exact ⟨_, _, exec_movmskps hready reg rm, wroteGpr_writeGpr .., fun i hi => getLsbD_signMask (by decide) _ hi⟩

/-! ## Whole registers (R334 to R337, R453 to R456, R622 to R625) -/

theorem xmmLoad_of_holds {x : Ext} {al : Align} {reg : Reg} {rm : RM} {s : State} {b : Xmm} (hready : ReadyX x s)
    (hb : Holds s al s.readXmm rm b) : xmmLoad x al reg rm s = .next (s.writeXmm reg b) := by
  have hc := checkX_of_ready hready
  cases rm with
  | reg r =>
    obtain rfl : b = s.readXmm r := (show b = (s.readXmm r).setWidth 128 from hb).trans (BitVec.setWidth_eq _)
    exact xmmLoad_reg_eq hc
  | mem m =>
    obtain ⟨hread, hspells⟩ := hb
    exact xmmLoad_mem_eq hc (load_of_canRead (by decide) hread hspells)

/-- A 16-byte move: what each direction runs. -/
structure MovesWhole (r : Ext × Align × (Dir → Reg → RM → Instr)) : Prop where
  load  : ∀ reg rm s, exec (r.2.2 .load reg rm) s = xmmLoad r.1 r.2.1 reg rm s
  store : ∀ reg rm s, exec (r.2.2 .store reg rm) s = xmmStore r.1 r.2.1 reg rm s

theorem moves16_moveWhole : ∀ r ∈ moves16, MovesWhole r := by
  simp only [moves16, List.forall_mem_cons]
  refine ⟨?movaps, ?movups, ?movapd, ?movupd, ?movdqa, ?movdqu, nofun⟩
  all_goals exact ⟨fun _ _ _ => rfl, fun _ _ _ => rfl⟩

/-- Settles O35: every row loads what its operand holds, and its store form copies between registers. -/
theorem xmmFullMoves : Obligations.XmmFullMoves := by
  intro r hr reg s hready
  obtain ⟨hload, hstore⟩ := moves16_moveWhole r hr
  exact ⟨fun rm b hb => ⟨_, (hload ..).trans (xmmLoad_of_holds hready hb), wroteXmm_writeXmm ..⟩,
    fun q => ⟨_, (hstore ..).trans (xmmStore_reg_eq (checkX_of_ready hready)), wroteXmm_writeXmm ..⟩⟩

/-! ## The low part (R338, R339, R457, R458) -/

/-- Lane 0 of `a` put into `v`: the low bits of `a` below the bits of `v`. -/
theorem getLsbD_setLane_lane_zero {n k : Nat} (hn : 0 < n) (hk : k % n = 0) (a v : BitVec k) {j : Nat} (hj : j < k) :
    (setLane n 0 (lane n 0 a) v).getLsbD j = if j < n then a.getLsbD j else v.getLsbD j := by
  split
  · next hlow =>
    have hlanes : 0 < k / n := Nat.div_pos (Nat.le_of_dvd (by omega) (Nat.dvd_of_mod_eq_zero hk)) hn
    have hlane := (lane_setLane (i := 0) hn (lane n 0 a) v hlanes).trans (if_pos rfl)
    have hbit := congrArg (fun y => y.getLsbD j) hlane
    simpa [lane, hlow] using hbit
  · next hhigh => exact getLsbD_setLane_zero hn hk _ v (Nat.le_of_not_lt hhigh) hj

/-- A scalar move: what each direction runs. -/
structure MovesScalar (r : MoveRow) : Prop where
  width : r.width = 32 ∨ r.width = 64
  load  : ∀ reg rm s, exec (r.make .load reg rm) s = scalarLoad r.ext r.width reg rm s
  store : ∀ reg rm s, exec (r.make .store reg rm) s = scalarStore r.ext r.width reg rm s

theorem scalarMoves_moveScalar : ∀ r ∈ scalarMoves, MovesScalar r := by
  simp only [scalarMoves, List.forall_mem_cons]
  refine ⟨?movss, ?movsd, nofun⟩
  case movss => exact ⟨.inl rfl, fun _ _ _ => rfl, fun _ _ _ => rfl⟩
  case movsd => exact ⟨.inr rfl, fun _ _ _ => rfl, fun _ _ _ => rfl⟩

/-- Settles O36: between registers lane 0 is replaced, from memory the number read is widened. -/
theorem xmmScalarMoves : Obligations.XmmScalarMoves := by
  intro r hr reg s hready
  obtain ⟨hwidth, hload, hstore⟩ := scalarMoves_moveScalar r hr
  have hc := checkX_of_ready hready
  have hpos : 0 < r.width := by omega
  have hbytes : r.width % 8 = 0 := by omega
  have hdivides : 128 % r.width = 0 := by rcases hwidth with h | h <;> rw [h]
  refine ⟨fun q => ⟨_, _, (hload ..).trans (scalarLoad_reg_eq hc), wroteXmm_writeXmm .., fun j hj => ?_⟩,
    fun m b hread hspells => ?_, fun q => ⟨_, _, (hstore ..).trans (scalarStore_reg_eq hc), wroteXmm_writeXmm ..,
      fun j hj => ?_⟩⟩
  · exact getLsbD_setLane_lane_zero hpos hdivides _ _ hj
  · exact ⟨_, (hload ..).trans (scalarLoad_mem_eq hc (load_of_canRead hbytes hread hspells)), wroteXmm_writeXmm ..⟩
  · exact getLsbD_setLane_lane_zero hpos hdivides _ _ hj

/-! ## One quadword (R340, R342, R344, R345, R459, R461) -/

/-- A register's two quadwords, the high one first. -/
theorem eq_append_lanes (v : Xmm) : v = lane 64 1 v ++ lane 64 0 v := by
  have hjoin : lane 64 1 v ++ lane 64 0 v = v.extractLsb' 0 (64 + 64) :=
    BitVec.extractLsb'_append_extractLsb'_eq_extractLsb' rfl
  exact (hjoin.trans BitVec.extractLsb'_eq_self).symm

theorem setLane_low_eq_append (x : Qword) (v : Xmm) : setLane 64 0 x v = lane 64 1 v ++ x := by
  rw [eq_append_lanes (setLane 64 0 x v), lane_setLane (by decide) x v (by decide),
    lane_setLane (by decide) x v (by decide), if_neg (by decide), if_pos rfl]

theorem setLane_high_eq_append (x : Qword) (v : Xmm) : setLane 64 1 x v = x ++ lane 64 0 v := by
  rw [eq_append_lanes (setLane 64 1 x v), lane_setLane (by decide) x v (by decide),
    lane_setLane (by decide) x v (by decide), if_pos rfl, if_neg (by decide)]

theorem halfMoves_exec_load : ∀ r ∈ halfMoves, ∀ reg m s, exec (r.2.2 .load reg m) s = halfLoad r.1 r.2.1 reg m s := by
  simp only [halfMoves, List.forall_mem_cons]
  refine ⟨?movlps, ?movhps, ?movlpd, ?movhpd, nofun⟩
  all_goals exact fun _ _ _ => rfl

/-- Settles O37: a load replaces one lane of 64 bits, and so does each of the two moves between registers. -/
theorem xmmHalfMoves : Obligations.XmmHalfMoves := by
  refine ⟨fun r hr reg m s b hready hread hspells => ?load, fun reg rm s hready => ⟨?movhlps, ?movlhps⟩⟩
  case load =>
    have hexec := (halfMoves_exec_load r hr reg m s).trans
      (halfLoad_eq (checkX_of_ready hready) (load_of_canRead (by decide) hread hspells))
    exact ⟨_, _, hexec, wroteXmm_writeXmm .., fun h hh => lane_setLane (by decide) b _ hh⟩
  case movhlps =>
    have hexec := exec_movhlps hready reg rm
    rw [setLane_low_eq_append] at hexec
    exact ⟨_, hexec, wroteXmm_writeXmm ..⟩
  case movlhps =>
    have hexec := exec_movlhps hready reg rm
    rw [setLane_high_eq_append] at hexec
    exact ⟨_, hexec, wroteXmm_writeXmm ..⟩

end Sys2Proof.Machine
end

section
/-! SUPPORT. The two-operand instructions on XMM registers: packed integers, unpacks, logic and shuffles; each writes an
operation of both operands, whose lanes are the formula of its rule (42_sse_fp_cmp_conv.md rules R375 to R381, 44_sse2_fp.md
rules R482 to R488, 46_sse2_int128_ext_pack_logic_shift.md rules R565 to R567, 47_sse2_int128_new.md rules R634 to R636,
R639, R640). -/

namespace Sys2Proof.Machine

open Sys2Proof.Spec

/-- A row's instruction runs `f`, and the lanes of `f` are the ones that the row's rule gives. -/
structure RunsXmm (r : Spec.Row 128 128) (f : Xmm → Xmm → Xmm) : Prop where
  exec  : ∀ reg rm s, exec (r.make reg rm) s = xmmOp r.ext f reg rm s
  lanes : ∀ {i} (a b : Xmm), i < 128 / r.width → lane r.width i (f a b) = r.value i a b

/-! ## By the shape of the operation -/

section
variable {x : Ext} {make : Reg → RM → Instr} {w : Nat}

/-- Unpacking from lane `start` on. -/
theorem interleave_runsXmm {start : Nat} {place : Nat → Nat} (hplace : ∀ i, i < 128 / w → start + i / 2 = place i)
    (hw : 0 < w) (hexec : ∀ reg rm s, exec (make reg rm) s = xmmOp x (interleave w start) reg rm s) :
    ∃ f, RunsXmm ⟨x, make, w, fun i a b => lane w (place i) (if i % 2 = 0 then a else b)⟩ f := by
  refine ⟨interleave w start, hexec, fun {i} a b hi => ?_⟩
  rw [lane_interleave hw start a b hi, hplace i hi]

theorem bitwise_runsXmm {f : Xmm → Xmm → Xmm} {g : Bool → Bool → Bool}
    (hfg : ∀ i a b, i < 128 → (f a b).getLsbD i = g (a.getLsbD i) (b.getLsbD i))
    (hexec : ∀ reg rm s, exec (make reg rm) s = xmmOp x f reg rm s) :
    ∃ f, RunsXmm ⟨x, make, 1, fun i a b => BitVec.ofBool (g (a.getLsbD i) (b.getLsbD i))⟩ f :=
  ⟨f, hexec, fun a b hi => (lane_one _).trans (congrArg _ (hfg _ a b (by rwa [Nat.div_one] at hi)))⟩

/-- Each lane chosen by itself, as a shuffle does. -/
theorem build_runsXmm {f g : Nat → Xmm → Xmm → BitVec w} (hfg : ∀ i a b, f i a b = g i a b) (hw : 0 < w)
    (hexec : ∀ reg rm s, exec (make reg rm) s = xmmOp x (fun a b => build 128 w fun i => f i a b) reg rm s) :
    ∃ f, RunsXmm ⟨x, make, w, g⟩ f :=
  ⟨_, hexec, fun {i} a b hi => (lane_build hw (fun i => f i a b) hi).trans (hfg i a b)⟩

end

/-- One bit of an immediate (R486). -/
theorem toNat_extractLsb'_one (imm : Imm8) (i : Nat) : (imm.extractLsb' i 1).toNat = imm.toNat / 2 ^ i % 2 := by
  rw [BitVec.extractLsb'_toNat, Nat.shiftRight_eq_div_pow, pow_one]

/-! ## Every row -/

theorem packed_runsXmm : ∀ p ∈ packed, ∃ f, RunsXmm ⟨.sse2, p.xmm, p.width, p.value 128⟩ f := by
  intro p hp
  obtain ⟨f, hf⟩ := packed_runsAs p hp
  exact ⟨f 128, hf.xmm, fun a b hi => hf.lanes a b (by decide) hi⟩

theorem xmmRows_runsXmm (imm : Imm8) : ∀ r ∈ xmmRows imm, ∃ f, RunsXmm r f := by
  simp only [xmmRows, List.forall_mem_append, List.forall_mem_map, List.forall_mem_cons]
  refine ⟨packed_runsXmm, ?punpcklbw, ?punpcklwd, ?punpckldq, ?punpcklqdq, ?punpckhqdq, ?unpcklps, ?unpckhps, ?unpcklpd,
    ?unpckhpd, ?andps, ?andnps, ?orps, ?xorps, ?andpd, ?andnpd, ?orpd, ?xorpd, ?shufps, ?shufpd, ?pshufd, ?pshufhw,
    ?pshuflw, nofun⟩
  case punpcklbw | punpcklwd | punpckldq | unpcklps =>
    exact interleave_runsXmm (start := 0) (fun _ _ => Nat.zero_add _) (by decide) fun _ _ _ => rfl
  case punpcklqdq | unpcklpd =>
    exact interleave_runsXmm (start := 0) (fun i hi => by omega) (by decide) fun _ _ _ => rfl
  case punpckhqdq | unpckhpd =>
    exact interleave_runsXmm (start := 1) (fun i hi => by omega) (by decide) fun _ _ _ => rfl
  case unpckhps => exact interleave_runsXmm (start := 2) (fun _ _ => rfl) (by decide) fun _ _ _ => rfl
  case andps | andpd =>
    exact bitwise_runsXmm (f := fun a b => a &&& b) (g := (· && ·)) (fun _ _ _ _ => BitVec.getLsbD_and) fun _ _ _ => rfl
  case andnps | andnpd =>
    exact bitwise_runsXmm (f := andNot) (g := fun a b => !a && b) (fun _ _ _ hi => by simp [andNot, hi]) fun _ _ _ => rfl
  case orps | orpd =>
    exact bitwise_runsXmm (f := fun a b => a ||| b) (g := (· || ·)) (fun _ _ _ _ => BitVec.getLsbD_or) fun _ _ _ => rfl
  case xorps | xorpd =>
    exact bitwise_runsXmm (f := fun a b => a ^^^ b) (g := bne) (fun _ _ _ _ => BitVec.getLsbD_xor) fun _ _ _ => rfl
  case shufps =>
    refine build_runsXmm (f := fun i a b => if i < 2 then lane 32 (selector imm i) a else lane 32 (selector imm i) b)
      (fun i a b => ?_) (by decide) fun _ _ _ => rfl
    rw [selector_eq_sel, ← apply_ite (lane 32 (sel imm i))]
  case shufpd =>
    refine build_runsXmm (f := fun i a b => lane 64 (imm.extractLsb' i 1).toNat (if i = 0 then a else b))
      (fun i a b => ?_) (by decide) fun _ _ _ => rfl
    rw [toNat_extractLsb'_one]
  case pshufd =>
    exact build_runsXmm (f := fun i _ b => lane 32 (selector imm i) b)
      (fun i _ b => congrArg (lane 32 · b) (selector_eq_sel imm i)) (by decide) fun _ _ _ => rfl
  case pshufhw =>
    refine build_runsXmm (f := fun i _ b => if i < 4 then lane 16 i b else lane 16 (4 + selector imm (i - 4)) b)
      (fun i _ b => ?_) (by decide) fun _ _ _ => rfl
    rw [selector_eq_sel, ← apply_ite (lane 16 · b)]
  case pshuflw =>
    refine build_runsXmm (f := fun i _ b => if i < 4 then lane 16 (selector imm i) b else lane 16 i b)
      (fun i _ b => ?_) (by decide) fun _ _ _ => rfl
    rw [selector_eq_sel, ← apply_ite (lane 16 · b)]

/-- Settles O32: every row's instruction writes an operation whose lanes are the row's. -/
theorem xmmTwoOperand : Obligations.XmmTwoOperand := by
  intro imm r hr reg rm s b hready hb
  obtain ⟨f, hf⟩ := xmmRows_runsXmm imm r hr
  have hexec := (hf.exec reg rm s).trans (xmmOp_eq (checkX_of_ready hready) (xmmOrMem128_of_holds hb))
  exact ⟨_, _, hexec, wroteXmm_writeXmm .., fun _ hi => hf.lanes _ b hi⟩

end Sys2Proof.Machine
end

section
/-! SUPPORT. The conversions where every condition is masked: what each family leaves, by the registers it converts between
(41_fp_numerics.md rules R290 to R292, R294; 42_sse_fp_cmp_conv.md rules R369 to R374, 45_sse2_conversion.md rules R502 to
R517). -/

namespace Sys2Proof.Machine

open Sys2Proof.Spec

/-! ## Lanes of the results -/

section
variable {m n w k c i : Nat} (f : BitVec m → Lane n) (b : BitVec w)

/-- The converted lanes, and zeros above them. -/
theorem lane_ofLanes_convertLanes (hn : 0 < n) (hi : i < k / n) :
    lane n i (ofLanes k ((convertLanes c f b).map Lane.bits)) = if i < c then (f (lane m i b)).bits else 0 := by
  rw [lane_ofLanes hn _ _ (lane_end_le hi)]
  by_cases h : i < c <;> simp [convertLanes, h]

/-- The converted lanes, and the lanes of `v` above them. -/
theorem lane_setLanes_convertLanes (hn : 0 < n) (v : BitVec k) (hi : i < k / n) :
    lane n i (setLanes ((convertLanes c f b).map Lane.bits) v) = if i < c then (f (lane m i b)).bits else lane n i v := by
  rw [setLanes, lane_build hn _ hi]
  by_cases h : i < c <;> simp [convertLanes, h]

end

/-- A number put into lane 0 of an XMM register, the other bits kept. -/
theorem wroteXmm_lane_zero {n : Nat} (hn : n = 32 ∨ n = 64) {s t : State} {reg : Reg} {x : BitVec n} {r : Result}
    (hr : r = .next (t.writeXmm reg (setLane n 0 x (s.readXmm reg)))) :
    ∃ u v, r = .next u ∧ WroteXmm t u reg v ∧ lane n 0 v = x ∧
      ∀ j, n ≤ j → j < 128 → v.getLsbD j = (s.readXmm reg).getLsbD j := by
  have hpos : 0 < n := by omega
  have hlanes : 0 < 128 / n := by rcases hn with rfl | rfl <;> decide
  have hdivides : 128 % n = 0 := by rcases hn with rfl | rfl <;> rfl
  exact ⟨_, _, hr, wroteXmm_writeXmm .., (lane_setLane hpos _ _ hlanes).trans (if_pos rfl),
    fun j hj hj128 => getLsbD_setLane_zero hpos hdivides _ _ hj hj128⟩

/-! ## The families -/

section
variable {s : State} {reg : Reg} {rm : RM} {x : Ext}

theorem cvtPacked_wrote {m n w c : Nat} {f : Dword → BitVec m → Lane n} {b : BitVec w} (hn : 0 < n) (hw : w % 8 = 0)
    (hready : ReadyX .sse2 s) (hb : Holds s (packedAlign w) s.readXmm rm b)
    (hmasked : Masked s.mxcsr (together c fun i => (f s.mxcsr (lane m i b)).conditions)) :
    ∃ t v, cvtPacked w c f reg rm s = .next t ∧
      WroteXmm (flagged s (together c fun i => (f s.mxcsr (lane m i b)).conditions)) t reg v ∧
      ∀ i, i < 128 / n → lane n i v = if i < c then (f s.mxcsr (lane m i b)).bits else 0 := by
  rw [← union_map_range c fun i => f s.mxcsr (lane m i b)] at hmasked ⊢
  exact ⟨_, _, cvtPacked_eq (checkX_of_ready hready) (packedSource_of_holds hw hb) hmasked, wroteXmm_flagged ..,
    fun i hi => lane_ofLanes_convertLanes _ b hn hi⟩

theorem cvtToMm_wrote {m w : Nat} {f : Dword → BitVec m → Lane 32} {b : BitVec w} (hw : w % 8 = 0)
    (hready : ReadyXM x s) (hb : Holds s (packedAlign w) s.readXmm rm b)
    (hmasked : Masked s.mxcsr (together 2 fun i => (f s.mxcsr (lane m i b)).conditions)) :
    ∃ t v, cvtToMm x w f reg rm s = .next t ∧
      WroteMm (flagged s (together 2 fun i => (f s.mxcsr (lane m i b)).conditions)) t reg v ∧
      ∀ i, i < 2 → lane 32 i v = (f s.mxcsr (lane m i b)).bits := by
  rw [← union_map_range 2 fun i => f s.mxcsr (lane m i b)] at hmasked ⊢
  exact ⟨_, _, cvtToMm_eq (checkXM_of_ready hready) (packedSource_of_holds hw hb) hmasked, wroteMm_writeMm ..,
    fun i hi => (lane_ofLanes_convertLanes _ b (by decide) hi).trans (if_pos hi)⟩

/-- The answer of CVTPI2PS where its conditions are masked (R369). -/
theorem execCvtpi2ps_eq {b : Qword} (hc : checkXM .sse s = .ok ()) (hb : s.mmOrMem 64 rm = .ok b)
    (hmasked : Masked s.mxcsr (union (convertLanes 2 (i2f single s.mxcsr) b))) :
    execCvtpi2ps reg rm s =
      .next (({ s with mxcsr := mxOr s.mxcsr (union (convertLanes 2 (i2f single s.mxcsr) b)) } : State).writeXmm reg
        (setLanes ((convertLanes 2 (i2f single s.mxcsr) b).map Lane.bits) (s.readXmm reg))).touchX87 := by
  simp [execCvtpi2ps, hc, hb, commit_eq_ok.mpr ⟨hmasked, rfl⟩]

theorem cvtpi2ps_wrote {b : Qword} (hready : ReadyXM .sse s) (hb : Holds s .checked s.readMm rm b)
    (hmasked : Masked s.mxcsr (together 2 fun i => (i2f single s.mxcsr (lane 32 i b)).conditions)) :
    ∃ t v, exec (.cvtpi2ps reg rm) s = .next t ∧
      WroteXmm (valid (flagged s (together 2 fun i => (i2f single s.mxcsr (lane 32 i b)).conditions))) t reg v ∧
      ∀ i, i < 4 → lane 32 i v =
        if i < 2 then (i2f single s.mxcsr (lane 32 i b)).bits else lane 32 i (s.readXmm reg) := by
  rw [← union_map_range 2 fun i => i2f single s.mxcsr (lane 32 i b)] at hmasked ⊢
  exact ⟨_, _, execCvtpi2ps_eq (checkXM_of_ready hready) (mmOrMem_of_holds (by decide) hb) hmasked,
    wroteXmm_writeXmm (valid (flagged s _)) .., fun i hi => lane_setLanes_convertLanes _ b (by decide) _ hi⟩

/-! ## CVTPI2PD (R504; log 23) -/

theorem exec_cvtpi2pd_reg {r : Reg} (hready : ReadyXM .sse2 s) :
    exec (.cvtpi2pd reg (.reg r)) s = .next (s.writeXmm reg
      (ofLanes 128 ((convertLanes 2 (i2f double s.mxcsr) (s.readMm r)).map Lane.bits))).touchX87 :=
  settle_afterXM hready rfl

theorem exec_cvtpi2pd_mem {m : MemOp} {b : Qword} (hready : ReadyX .sse2 s) (hb : s.load .checked m 64 = .ok b) :
    exec (.cvtpi2pd reg (.mem m)) s = .next (s.writeXmm reg
      (ofLanes 128 ((convertLanes 2 (i2f double s.mxcsr) b).map Lane.bits))) :=
  settle_afterX hready (by rw [hb]; rfl)

/-- With a register the x87 side effects too, with memory none. -/
theorem cvtpi2pd_wrote {b : Qword} (hready : Ready (.cvtpi2pd reg rm) s) (hb : Holds s .checked s.readMm rm b) :
    ∃ t v, exec (.cvtpi2pd reg rm) s = .next t ∧ WroteXmm (match rm with | .reg _ => valid s | .mem _ => s) t reg v ∧
      ∀ i, i < 2 → lane 64 i v = (i2f double s.mxcsr (lane 32 i b)).bits := by
  have hlanes : ∀ i, i < 2 → lane 64 i (ofLanes 128 ((convertLanes 2 (i2f double s.mxcsr) b).map Lane.bits)) =
      (i2f double s.mxcsr (lane 32 i b)).bits :=
    fun i hi => (lane_ofLanes_convertLanes _ b (by decide) hi).trans (if_pos hi)
  cases rm with
  | reg r =>
    obtain rfl : b = s.readMm r := (show b = (s.readMm r).setWidth 64 from hb).trans (BitVec.setWidth_eq _)
    exact ⟨_, _, exec_cvtpi2pd_reg hready, wroteXmm_writeXmm (valid s) .., hlanes⟩
  | mem m =>
    obtain ⟨hread, hspells⟩ := hb
    exact ⟨_, _, exec_cvtpi2pd_mem hready (load_of_canRead (by decide) hread hspells), wroteXmm_writeXmm .., hlanes⟩

end

/-! ## Every row -/

/-- Settles O48: by the family of the row; a packed one writes every lane, the others lane 0. -/
theorem conversionsToXmm : Obligations.ConversionsToXmm := by
  refine ⟨?packed, ?scalar, ?fromGpr⟩
  case packed =>
    simp only [cvtRows, List.forall_mem_cons]
    refine ⟨?cvtpd2dq, ?cvttpd2dq, ?cvtdq2pd, ?cvtps2pd, ?cvtpd2ps, ?cvtdq2ps, ?cvtps2dq, ?cvttps2dq, nofun⟩
    all_goals
      intro reg rm s b hready hb hmasked
      exact cvtPacked_wrote (by decide) (by decide) hready hb hmasked
  case scalar =>
    simp only [cvtScalarRows, List.forall_mem_cons]
    refine ⟨?cvtss2sd, ?cvtsd2ss, nofun⟩
    all_goals
      intro reg rm s b hready hb hmasked
      exact wroteXmm_lane_zero (by decide)
        (cvtScalar_eq (checkX_of_ready hready) (xmmOrMem_of_holds (by decide) hb) hmasked)
  case fromGpr =>
    simp only [cvtFromGprRows, List.forall_mem_cons]
    refine ⟨?cvtsi2ss, ?cvtsi2sd, nofun⟩
    all_goals
      intro reg rm s b hready hb hmasked
      exact wroteXmm_lane_zero (by decide)
        (cvtFromGpr_eq (checkX_of_ready hready) (gprOrMem_of_holds (by decide) hb) hmasked)

/-- Settles O49: the number converted is what the general register holds. -/
theorem conversionsToGpr : Obligations.ConversionsToGpr := by
  unfold Obligations.ConversionsToGpr
  simp only [cvtToGprRows, List.forall_mem_cons]
  refine ⟨?cvtss2si, ?cvttss2si, ?cvtsd2si, ?cvttsd2si, nofun⟩
  all_goals
    intro reg rm s b hready hb hmasked
    exact ⟨_, _, cvtToGpr_eq (checkX_of_ready hready) (xmmOrMem_of_holds (by decide) hb) hmasked,
      wroteGpr_writeGpr .., rfl⟩

/-- Settles O50: the four conversions to an MMX register, and the two from one. -/
theorem conversionsWithMmx : Obligations.ConversionsWithMmx := by
  refine ⟨?toMm, fun reg rm s b hready hb hmasked => cvtpi2ps_wrote hready hb hmasked,
    fun reg rm s b hready hb => cvtpi2pd_wrote hready hb⟩
  simp only [cvtToMmRows, List.forall_mem_cons]
  refine ⟨?cvtps2pi, ?cvttps2pi, ?cvtpd2pi, ?cvttpd2pi, nofun⟩
  all_goals
    intro reg rm s b hready hb hmasked
    exact cvtToMm_wrote (by decide) hready hb hmasked

end Sys2Proof.Machine
end

section
/-! SUPPORT. Words and masks of MMX registers: PINSRW, PEXTRW, PMOVMSKB, with the x87 side effects of 10_state.md rule R35
(43_sse_int_state_cache.md rules R414, R415, R420). -/

namespace Sys2Proof.Machine

open Sys2Proof.Spec

section
variable {s : State} (hready : ReadyM .sse s)
include hready

theorem exec_pinsrwMm {reg : Reg} {rm : RM} {imm : Imm8} {x : BitVec 16} (hx : s.gprOrMem 16 rm = .ok x) :
    exec (.pinsrwMm reg rm imm) s = .next (s.writeMm reg (setLane 16 (imm.toNat % 4) x (s.readMm reg))) :=
  settle_afterM hready (by rw [hx, toNat_immLow]; rfl)

theorem exec_pextrwMm (reg rm : Reg) (imm : Imm8) :
    exec (.pextrwMm reg rm imm) s =
      .next (s.writeGpr reg ((lane 16 (imm.toNat % 4) (s.readMm rm)).setWidth 32)).touchX87 :=
  settle_afterM hready (by rw [toNat_immLow]; rfl)

theorem exec_pmovmskbMm (reg rm : Reg) :
    exec (.pmovmskbMm reg rm) s = .next (s.writeGpr reg (signMask 8 (s.readMm rm))).touchX87 :=
  settle_afterM hready rfl

end

/-- Settles O29: a word set or read at the immediate's place, and the sign mask bit by bit; a general register is written in
a state that already has the x87 side effects. -/
theorem mmxWordsAndMask : Obligations.MmxWordsAndMask := by
  refine fun s hready => ⟨fun reg rm imm x hx => ?pinsrw, fun reg rm imm => ?pextrw, fun reg rm => ?pmovmskb⟩
  case pinsrw =>
    exact ⟨_, _, exec_pinsrwMm hready (gprOrMem_of_holds (by decide) hx), wroteMm_writeMm ..,
      fun i hi => lane_setLane (by decide) _ _ hi⟩
  case pextrw =>
    rw [BitVec.ofNat_toNat]
    exact ⟨_, exec_pextrwMm hready reg rm imm, wroteGpr_writeGpr (valid s) ..⟩
  case pmovmskb =>
    exact ⟨_, _, exec_pmovmskbMm hready reg rm, wroteGpr_writeGpr (valid s) ..,
      fun i hi => getLsbD_signMask (by decide) _ hi⟩

end Sys2Proof.Machine
end

section
/-! SUPPORT. FXSAVE: which offsets of the image it writes, each of them once, and that the processor reads every field back at
its place (43_sse_int_state_cache.md rule R426). -/

namespace Sys2Proof.Machine

open Sys2Proof.Spec

/-! ## Consecutive bytes of an image -/

/-- The bytes stand at consecutive offsets from `lo` upwards. -/
def Spans (l : List (Nat × Byte)) (lo n : Nat) : Prop := l.map Prod.fst = List.range' lo n

theorem Spans.append {l l' : List (Nat × Byte)} {lo mid n n' : Nat} (h : Spans l lo n) (h' : Spans l' mid n')
    (hmid : mid = lo + n) : Spans (l ++ l') lo (n + n') := by
  subst hmid
  unfold Spans at *
  rw [List.map_append, h, h']
  simp

/-- Slots of one size, one after another. -/
theorem Spans.slots {f : Nat → List (Nat × Byte)} {lo n : Nat} (h : ∀ j, Spans (f j) (lo + n * j) n) (k : Nat) :
    Spans ((List.range k).flatMap f) lo (n * k) := by
  induction k with
  | zero => rfl
  | succ k ih =>
    rw [List.range_succ, List.flatMap_append, List.flatMap_singleton, Nat.mul_succ]
    exact ih.append (h k) rfl

theorem spans_fieldBytes {w : Nat} (at_ : Nat) (v : BitVec w) : Spans (fieldBytes at_ v) at_ (w / 8) := by
  refine List.ext_getElem (by simp [fieldBytes]) fun i _ _ => ?_
  simp [fieldBytes]

theorem spans_reservedBytes (oracle lo n : Nat) : Spans (reservedBytes oracle lo n) lo n := by
  refine List.ext_getElem (by simp [reservedBytes]) fun i _ _ => ?_
  simp [reservedBytes]

theorem mem_fieldBytes {w at_ i : Nat} {v : BitVec w} (hi : i < w / 8) :
    (at_ + i, v.extractLsb' (8 * i) 8) ∈ fieldBytes at_ v :=
  List.mem_mapIdx.mpr ⟨i, by simpa using hi, by simp [toBytes]⟩

/-! ## The offsets of the image -/

/-- The part before the slots, and the slots. -/
theorem fxImageX87_offsets (s : State) :
    (fxImageX87 s).map Prod.fst = List.range' 0 24 ++ List.range' 32 128 := by
  have hhead := ((((((((((spans_fieldBytes 0 s.fcw).append (spans_fieldBytes 2 s.fsw) rfl).append
    (spans_fieldBytes 4 (abridgedTags s.ftw)) rfl).append (spans_reservedBytes s.oracle 5 1) rfl).append
    (spans_fieldBytes 6 (s.fop.setWidth 16)) rfl).append (spans_fieldBytes 8 s.fip) rfl).append
    (spans_fieldBytes 12 s.fcs) rfl).append (spans_reservedBytes s.oracle 14 2) rfl).append
    (spans_fieldBytes 16 s.fdp) rfl).append (spans_fieldBytes 20 s.fds) rfl).append
    (spans_reservedBytes s.oracle 22 2) rfl
  have hslots := Spans.slots (lo := 32) (n := 16) (fun j =>
    (spans_fieldBytes (32 + 16 * j) (s.readFpr (fswTop s.fsw + BitVec.ofNat 3 j))).append
      (spans_reservedBytes s.oracle (42 + 16 * j) 6) (by omega)) 8
  rw [fxImageX87, List.map_append, hhead, hslots]

theorem fxImageXmm_offsets (s : State) :
    (fxImageXmm s).map Prod.fst = List.range' 24 8 ++ List.range' 160 128 := by
  have hhead := (spans_fieldBytes 24 s.mxcsr).append (spans_fieldBytes 28 s.mxcsrMask) rfl
  have hslots := Spans.slots (lo := 160) (n := 16)
    (fun j => spans_fieldBytes (160 + 16 * j) (s.readXmm (BitVec.ofNat 3 j))) 8
  rw [fxImageXmm, List.map_append, hhead, hslots]

theorem fxImage_offsets (s : State) :
    (fxImage s).map Prod.fst =
      List.range' 0 24 ++ List.range' 32 128 ++
        (if s.osfxsr then List.range' 24 8 ++ List.range' 160 128 else []) ++ List.range' 288 176 := by
  rw [fxImage, List.map_append, List.map_append, fxImageX87_offsets, spans_reservedBytes]
  split
  · rw [fxImageXmm_offsets]
  · rfl

/-- Bytes 464 and above never, the XMM part only with `cr4.OSFXSR` (R426). -/
theorem mem_fxImage_offsets {s : State} {o : Nat} :
    o ∈ (fxImage s).map Prod.fst ↔
      o < 24 ∨ (32 ≤ o ∧ o < 160) ∨ (s.osfxsr = true ∧ ((24 ≤ o ∧ o < 32) ∨ (160 ≤ o ∧ o < 288))) ∨
        (288 ≤ o ∧ o < 464) := by
  rw [fxImage_offsets]
  split
  · next h =>
    simp only [h, List.mem_append, List.mem_range'_1, true_and]
    omega
  · next h =>
    simp only [h, List.mem_append, List.mem_range'_1, List.not_mem_nil, Bool.false_eq_true, false_and, false_or, or_false]
    omega

theorem nodup_append_range' {l : List Nat} {lo n : Nat} (h : l.Nodup) (hout : ∀ o ∈ l, o < lo ∨ lo + n ≤ o) :
    (l ++ List.range' lo n).Nodup :=
  List.nodup_append.mpr ⟨h, List.nodup_range', fun o ho p hp => by
    have := hout o ho
    have := List.mem_range'_1.mp hp
    omega⟩

/-- No offset is written twice. -/
theorem nodup_fxImage_offsets (s : State) : ((fxImage s).map Prod.fst).Nodup := by
  have hx87 : (List.range' 0 24 ++ List.range' 32 128).Nodup := nodup_append_range' List.nodup_range' (by simp; omega)
  rw [fxImage_offsets]
  split
  · rw [← List.append_assoc]
    have hmxcsr := nodup_append_range' (lo := 24) (n := 8) hx87 (by simp; omega)
    have hxmm := nodup_append_range' (lo := 160) (n := 128) hmxcsr (by simp; omega)
    exact nodup_append_range' hxmm (by simp; omega)
  · rw [List.append_nil]
    exact nodup_append_range' hx87 (by simp; omega)

theorem lt_of_mem_fxImage {s : State} {o : Nat × Byte} (h : o ∈ fxImage s) : o.1 < 464 := by
  have := mem_fxImage_offsets.mp (List.mem_map_of_mem (f := Prod.fst) h)
  omega

/-! ## What FXSAVE leaves -/

/-- FXSAVE's effect at an address. -/
def State.saveImage (s : State) (a : Nat) : State := { s.storeEach false a (fxImage s) with oracle := s.oracle + 1 }

theorem exec_fxsave {m : MemOp} {s : State} (hready : ReadyFX .sse s) (hwrite : CanWrite s .must16 m 512) :
    exec (.fxsave m) s = .next (s.saveImage (place s m)) := by
  have hexec : exec (.fxsave m) s = settle s (checkFX s >>= fun _ => s.checkAccess true .must16 m 512 >>= fun a =>
      .ok (s.saveImage a)) := rfl
  rw [hexec, checkFX_of_ready hready, checkAccess_of_canWrite hwrite]
  rfl

section
variable (s : State) (a : Nat)

theorem State.saveImage_rest :
    s.saveImage a =
      { s with sb := (s.saveImage a).sb, stored := (s.saveImage a).stored, oracle := (s.saveImage a).oracle } := by
  unfold State.saveImage
  rw [s.storeEach_rest false a (fxImage s)]

theorem State.saveImage_sb :
    (s.saveImage a).sb = s.sb ++ (fxImage s).map fun o => .store false (s.phys (a + o.1)) [o.2] := by
  simp only [State.saveImage, State.storeEach_sb_eq]

variable {s a}

theorem State.byte_saveImage (x : Nat) : (s.saveImage a).byte x = (s.storeEach false a (fxImage s)).byte x :=
  State.byte_congr (by simp only [State.saveImage]) (by simp only [State.saveImage]) (by simp only [State.saveImage]) x

/-- A byte of the image is read back at its place. -/
theorem State.byte_saveImage_self {o : Nat × Byte} (ho : o ∈ fxImage s) : (s.saveImage a).byte (a + o.1) = o.2 := by
  rw [State.byte_saveImage]
  exact State.byte_storeEach_self s false a _ (nodup_fxImage_offsets s)
    (fun p hp => Nat.lt_trans (lt_of_mem_fxImage hp) (by decide)) ho

/-- A byte that no byte of the image lies on reads as before. -/
theorem State.byte_saveImage_other {x : Nat} (h : ∀ o, o < 464 → s.phys x ≠ s.phys (a + o)) :
    (s.saveImage a).byte x = s.byte x := by
  rw [State.byte_saveImage]
  exact State.byte_storeEach_other s false a x _ fun o ho => h o.1 (lt_of_mem_fxImage ho)

/-- So does a byte of the operand that the image leaves out. -/
theorem State.byte_saveImage_leftOut {o : Nat} (ho : o < 512) (h : o ∉ (fxImage s).map Prod.fst) :
    (s.saveImage a).byte (a + o) = s.byte (a + o) := by
  rw [State.byte_saveImage]
  refine State.byte_storeEach_other s false a _ _ fun p hp => ?_
  have hlt := lt_of_mem_fxImage hp
  have hne : p.1 ≠ o := fun e => h (e ▸ List.mem_map_of_mem hp)
  exact s.phys_ne (by omega) (by omega) (by omega)

/-- A field of the image is read back at its place. -/
theorem State.saveImage_spells {w at_ : Nat} {v : BitVec w} (h : ∀ o ∈ fieldBytes at_ v, o ∈ fxImage s) :
    Spells (s.saveImage a) (a + at_) v := by
  intro i hi
  rw [Nat.add_assoc]
  exact State.byte_saveImage_self (o := (at_ + i, _)) (h _ (mem_fieldBytes hi))

/-- Slot `j` holds register `top + j` (R426). -/
theorem State.saveImage_fpr {j : Nat} (hj : j < 8) :
    Spells (s.saveImage a) (a + (32 + 16 * j)) (s.readFpr (fswTop s.fsw + BitVec.ofNat 3 j)) := by
  refine State.saveImage_spells fun o ho => ?_
  refine List.mem_append_left _ (List.mem_append_left _ (List.mem_append_right _ ?_))
  exact List.mem_flatMap.mpr ⟨j, List.mem_range.mpr hj, List.mem_append_left _ ho⟩

/-- The XMM part is in the image only with `cr4.OSFXSR`. -/
theorem mem_fxImage_of_xmm (hos : s.osfxsr = true) {o : Nat × Byte} (ho : o ∈ fxImageXmm s) : o ∈ fxImage s := by
  simp [fxImage, hos, ho]

theorem State.saveImage_xmm (hos : s.osfxsr = true) {j : Nat} (hj : j < 8) :
    Spells (s.saveImage a) (a + (160 + 16 * j)) (s.readXmm (BitVec.ofNat 3 j)) :=
  State.saveImage_spells fun _ ho => mem_fxImage_of_xmm hos
    (List.mem_append_right _ (List.mem_flatMap.mpr ⟨j, List.mem_range.mpr hj, ho⟩))

end

/-- Bit `i` of the abridged tag byte says whether register `i` is tagged not empty (R426). -/
theorem getLsbD_abridgedTags (ftw : BitVec 16) {i : Nat} (hi : i < 8) :
    (abridgedTags ftw).getLsbD i = decide (tagOf ftw i ≠ 3#2) := by
  rw [abridgedTags, getLsbD_ofLanes Nat.one_pos]
  simp [Nat.mod_one, hi, bne, Bool.beq_eq_decide_eq]

/-- Slot `j`'s register, counted as a number. -/
theorem fswTop_add (fsw : BitVec 16) (j : Nat) :
    fswTop fsw + BitVec.ofNat 3 j = BitVec.ofNat 3 ((fsw.extractLsb' 11 3).toNat + j) := by
  rw [BitVec.ofNat_add, BitVec.ofNat_toNat, BitVec.setWidth_eq]
  rfl

/-- Settles O42: every field is in the image, which is stored byte by byte, each offset once. -/
theorem fxsaveImage : Obligations.FxsaveImage := by
  intro m s hready hwrite a
  refine ⟨s.saveImage a, exec_fxsave hready hwrite, ?_⟩
  clear_value a
  refine ⟨s.saveImage_rest a, ?fcw, ?fsw, ?tags, ?fop, ?fip, ?fcs, ?fdp, ?fds, ?fpr,
    ?xmmPart, ?noXmmPart, ?top, ?others, ?queued⟩
  case fcw => exact State.saveImage_spells (at_ := 0) fun o ho => by simp [fxImage, fxImageX87, ho]
  case fsw | fip | fcs | fdp | fds =>
    refine State.saveImage_spells fun o ho => ?_
    simp [fxImage, fxImageX87, ho]
  case tags =>
    intro i hi
    have htags : Spells (s.saveImage a) (a + 4) (abridgedTags s.ftw) :=
      State.saveImage_spells fun o ho => by simp [fxImage, fxImageX87, ho]
    rw [show (s.saveImage a).byte (a + 4) = _ from htags 0 (by decide), BitVec.getLsbD_extractLsb']
    simp only [hi, decide_true, Bool.true_and, Nat.mul_zero, Nat.zero_add]
    exact getLsbD_abridgedTags s.ftw hi
  case fop =>
    have hzeros : s.fop.setWidth 16 = 0#5 ++ s.fop := BitVec.setWidth_eq_append (by decide)
    rw [← hzeros]
    refine State.saveImage_spells fun o ho => ?_
    simp [fxImage, fxImageX87, ho]
  case fpr =>
    intro j hj
    rw [← fswTop_add, Nat.add_assoc]
    exact State.saveImage_fpr hj
  case xmmPart =>
    intro hos
    refine ⟨State.saveImage_spells fun o ho => mem_fxImage_of_xmm hos ?_,
      State.saveImage_spells (v := s.mxcsrMask) fun o ho => mem_fxImage_of_xmm hos ?_, fun j hj => ?_⟩
    · simp [fxImageXmm, ho]
    · simp [fxImageXmm, ho]
    · rw [Nat.add_assoc]
      exact State.saveImage_xmm hos hj
  case noXmmPart =>
    intro hos o ho
    have hos' : s.osfxsr = false := hos
    refine State.byte_saveImage_leftOut (by omega) ?_
    simp only [mem_fxImage_offsets, hos', Bool.false_eq_true, false_and, false_or]
    omega
  case top =>
    intro o hlo hhi
    refine State.byte_saveImage_leftOut hhi ?_
    rw [mem_fxImage_offsets]
    omega
  case others =>
    intro x hx
    exact State.byte_saveImage_other fun o ho => by simpa only [physOf_eq] using hx o ho
  case queued =>
    refine ⟨_, s.saveImage_sb a, fun e he => ?_⟩
    obtain ⟨o, _, rfl⟩ := List.mem_map.mp he
    exact ⟨_, _, rfl⟩

end Sys2Proof.Machine
end

section
/-! SUPPORT. FXRSTOR: the fields it reads from an image, the registers by the image's own `top` and the tags anew; and that it
brings back what FXSAVE saved (43_sse_int_state_cache.md rules R426, R427). -/

namespace Sys2Proof.Machine

open Sys2Proof.Spec

/-! ## Values and the bytes that spell them (20_memory.md rule R81) -/

/-- The bytes at an address spell one value alone. -/
theorem spells_unique {s : State} {a w : Nat} {v v' : BitVec w} (hw : w % 8 = 0) (h : Spells s a v)
    (h' : Spells s a v') : v = v' := (ofBytes_of_spells hw h).symm.trans (ofBytes_of_spells hw h')

theorem extractLsb'_ofBytes {w i : Nat} {bs : List Byte} (hw : w = 8 * bs.length) (hi : i < bs.length) :
    (ofBytes w bs).extractLsb' (8 * i) 8 = bs[i] := by
  apply BitVec.eq_of_getLsbD_eq
  intro j hj
  have hdiv : (8 * i + j) / 8 = i := by omega
  have hmod : (8 * i + j) % 8 = j := by omega
  have hlt : 8 * i + j < w := by omega
  simp only [BitVec.getLsbD_extractLsb', ofBytes, BitVec.getLsbD_ofNat, leNat_testBit, hdiv, hmod, hj, hlt,
    List.getElem?_eq_getElem hi, decide_true, Bool.true_and]

/-- A field of the image is the value that its bytes spell. -/
theorem spells_imageField (s : State) (a at_ : Nat) {w : Nat} (hw : w % 8 = 0) :
    Spells s (a + at_) (imageField s a at_ w) := by
  intro i hi
  rw [imageField, extractLsb'_ofBytes (by rw [State.bytes_length]; omega) (by rwa [State.bytes_length])]
  simp [State.bytes]

/-! ## FXRSTOR's effect -/

/-- FXRSTOR where no reserved bit of MXCSR would be loaded. -/
theorem exec_fxrstor {m : MemOp} {s : State} (hready : ReadyFX .sse s) (hread : CanRead s .must16 m 512)
    (hv : (s.osfxsr && s.mxcsrReserved (imageField s (place s m) 24 32)) = false) :
    exec (.fxrstor m) s = .next (restoreImage s (place s m)) := by
  have hexec : exec (.fxrstor m) s = settle s (checkFX s >>= fun _ => s.checkAccess false .must16 m 512 >>= fun a =>
      if s.osfxsr && s.mxcsrReserved (imageField s a 24 32) then raise (.zero .gp) else .ok (restoreImage s a)) := rfl
  rw [hexec, checkFX_of_ready hready, checkAccess_of_canRead hread]
  simp only [res_ok_bind, hv, Bool.false_eq_true, if_false]
  rfl

/-- The x87 part is loaded whatever `cr4.OSFXSR` is, MXCSR and the XMM registers only with it. -/
theorem restoreImage_eq (s : State) (a : Nat) :
    restoreImage s a =
      { restoreX87 s a with
        mxcsr := if s.osfxsr then imageField s a 24 32 else s.mxcsr
        xmm := if s.osfxsr then Vector.ofFn fun j => imageField s a (160 + 16 * j.val) 128 else s.xmm } := by
  unfold restoreImage
  split <;> rfl

theorem byte_restoreImage (s : State) (a : Nat) : SameBytes s (restoreImage s a) := by
  rw [restoreImage_eq]
  exact State.byte_congr rfl rfl rfl

/-! ## Registers and tags -/

section
variable (s : State) (a : Nat)

theorem readFpr_restoreImage (i : Reg) :
    (restoreImage s a).readFpr i = imageFpr s a (fswTop (imageField s a 2 16)) i.toNat := by
  rw [restoreImage_eq]
  exact Vector.getElem_ofFn _

theorem readXmm_restoreImage (hos : s.osfxsr = true) (i : Reg) :
    (restoreImage s a).readXmm i = imageField s a (160 + 16 * i.toNat) 128 := by
  rw [restoreImage_eq, hos]
  exact Vector.getElem_ofFn _

/-- Slot `j` goes to register `top + j` (R427). -/
theorem imageFpr_top_add (top : BitVec 3) {j : Nat} (hj : j < 8) :
    imageFpr s a top (BitVec.ofNat 3 (top.toNat + j)).toNat = imageField s a (32 + 16 * j) 80 := by
  have hslot : BitVec.ofNat 3 (top.toNat + j) - top = BitVec.ofNat 3 j := by
    rw [BitVec.ofNat_add, BitVec.ofNat_toNat, BitVec.setWidth_eq, BitVec.add_comm, BitVec.add_sub_cancel]
  rw [imageFpr, BitVec.ofNat_toNat, BitVec.setWidth_eq, hslot, BitVec.toNat_ofNat, Nat.mod_eq_of_lt hj]

/-- The tag that is computed anew for register `i`. -/
theorem tagOf_imageTags (top : BitVec 3) {i : Nat} (hi : i < 8) :
    tagOf (imageTags s a top) i =
      if (imageField s a 4 8).getLsbD i then tagFor (imageFpr s a top i) else 3#2 := by
  refine (lane_ofLanes (by decide : 0 < 2) _ i (by omega)).trans ?_
  simp [hi]

end

/-- The tag by the fields of the content, and by its value as a number. -/
theorem tagFor_eq (x : Fpr) : tagFor x = Spec.tagFor x := by
  have hexp : (x.extractLsb' 64 15).toNat = x.toNat / 2 ^ 64 % 2 ^ 15 := by
    rw [BitVec.extractLsb'_toNat, Nat.shiftRight_eq_div_pow]
  have hfrac : (x.extractLsb' 0 64).toNat = x.toNat % 2 ^ 64 := by
    rw [BitVec.extractLsb'_toNat, Nat.shiftRight_zero]
  simp only [tagFor, Spec.tagFor, ← BitVec.toNat_inj, hexp, hfrac]
  rfl

/-- Settles O43: each field is the value its bytes spell, each slot goes to its register, and each tag is computed anew. -/
theorem fxrstorLoads : Obligations.FxrstorLoads := by
  intro m s v abridged opcode hready hread a hmx hab hop hbits
  have hv : imageField s a 24 32 = v := ofBytes_of_spells (by decide) hmx
  have habridged : imageField s a 4 8 = abridged := ofBytes_of_spells (by decide) hab
  have hopcode : imageField s a 6 16 = opcode := ofBytes_of_spells (by decide) hop
  have hallowed : (s.osfxsr && s.mxcsrReserved (imageField s a 24 32)) = false := by
    rw [hv, Bool.and_eq_false_imp, ← Bool.not_eq_true, mxcsrReserved_iff]
    exact fun hos hres => hres (hbits hos)
  refine ⟨restoreImage s a, exec_fxrstor hready hread hallowed, ?_⟩
  clear_value a
  refine ⟨?rest, byte_restoreImage s a, ?fcw, ?fsw, ?fip, ?fcs, ?fdp, ?fds, ?fpr, ?tags, ?xmm⟩
  case rest =>
    rw [restoreImage_eq, hv, ← hopcode, ← BitVec.setWidth_eq_extractLsb' (by decide)]
    unfold State.osfxsr
    cases s.cr4.getLsbD 9 <;> rfl
  case fcw => rw [restoreImage_eq]; exact spells_imageField s a 0 (by decide)
  case fsw | fip | fcs | fdp | fds => rw [restoreImage_eq]; exact spells_imageField s a _ (by decide)
  case fpr =>
    intro j hj
    have htop : (restoreImage s a).fsw.extractLsb' 11 3 = fswTop (imageField s a 2 16) := by rw [restoreImage_eq]; rfl
    rw [htop, readFpr_restoreImage, imageFpr_top_add s a _ hj, Nat.add_assoc]
    exact spells_imageField s a _ (by decide)
  case tags =>
    intro i hi
    have hftw : (restoreImage s a).ftw = imageTags s a (fswTop (imageField s a 2 16)) := by rw [restoreImage_eq]; rfl
    rw [hftw, readFpr_restoreImage, BitVec.toNat_ofNat, Nat.mod_eq_of_lt hi, ← tagFor_eq, ← habridged]
    exact tagOf_imageTags s a _ hi
  case xmm =>
    intro hos j hj
    rw [readXmm_restoreImage s a hos, BitVec.toNat_ofNat, Nat.mod_eq_of_lt hj, Nat.add_assoc]
    exact spells_imageField s a _ (by decide)

/-! ## The round trip -/

/-- A tag computed anew is never the one for empty. -/
theorem tagFor_ne_empty (x : Fpr) : Spec.tagFor x ≠ 3#2 := by
  unfold Spec.tagFor
  dsimp only
  split
  · decide
  · split <;> decide

/-- The x87 registers, read in stack order from some `top`, are all of them. -/
theorem fpr_eq_of_readFpr {s u : State} (top : BitVec 3)
    (h : ∀ j, j < 8 → u.readFpr (BitVec.ofNat 3 (top.toNat + j)) = s.readFpr (BitVec.ofNat 3 (top.toNat + j))) :
    u.fpr = s.fpr := by
  refine Vector.ext fun i hi => ?_
  have hreg : BitVec.ofNat 3 (top.toNat + (BitVec.ofNat 3 i - top).toNat) = BitVec.ofNat 3 i := by
    rw [BitVec.ofNat_add, BitVec.ofNat_toNat, BitVec.ofNat_toNat, BitVec.setWidth_eq, BitVec.setWidth_eq,
      BitVec.add_comm, BitVec.sub_add_cancel]
  have hread := h (BitVec.ofNat 3 i - top).toNat (BitVec.isLt _)
  rw [hreg] at hread
  simpa [State.readFpr, Vector.get, Nat.mod_eq_of_lt hi] using hread

theorem xmm_eq_of_readXmm {s u : State} (h : ∀ j, j < 8 → u.readXmm (BitVec.ofNat 3 j) = s.readXmm (BitVec.ofNat 3 j)) :
    u.xmm = s.xmm := by
  refine Vector.ext fun i hi => ?_
  simpa [State.readXmm, Vector.get, Nat.mod_eq_of_lt hi] using h i hi

/-- A byte spells itself. -/
theorem spells_byte (s : State) (a : Nat) : Spells s a (s.byte a) := by
  intro i hi
  obtain rfl : i = 0 := Nat.lt_one_iff.mp hi
  exact (BitVec.extractLsb'_eq_self).symm

/-- Settles O44: what FXSAVE leaves in memory and what FXRSTOR loads from it are spelled by the same bytes. -/
theorem fxsaveFxrstorRoundTrip : Obligations.FxsaveFxrstorRoundTrip := by
  intro m s hready hwrite hread hmxcsr
  obtain ⟨t, hsave, hrest, hfcw, hfsw, htags, hfop, hfip, hfcs, hfdp, hfds, hfpr, hxmmPart, -⟩ :=
    fxsaveImage m s hready hwrite
  have hready' : ReadyFX .sse t := by rw [hrest]; exact hready
  have hread' : CanRead t .must16 m 512 := by
    rw [hrest]
    exact ⟨hread.aligned, hread.right, hread.pages, hread.checked, hread.space, hread.memory⟩
  have hplace : place t m = place s m := by rw [hrest]; rfl
  have hcr4 : t.cr4 = s.cr4 := by rw [hrest]
  have hplat : t.plat = s.plat := by rw [hrest]
  have hmx : t.cr4.getLsbD 9 = true → imageField t (place t m) 24 32 = s.mxcsr := fun hos => by
    rw [hcr4] at hos
    rw [hplace]
    exact ofBytes_of_spells (by decide) (hxmmPart hos).1
  obtain ⟨u, hload, hkept, -, hfcw', hfsw', hfip', hfcs', hfdp', hfds', hfpr', htags', hxmm'⟩ :=
    fxrstorLoads m t _ _ (0#5 ++ s.fop) hready' hread' (spells_imageField t _ 24 (by decide)) (spells_byte t _)
      (by rw [hplace]; exact hfop) (fun hos => by rw [hmx hos, hplat]; exact hmxcsr)
  rw [hplace] at hfcw' hfsw' hfip' hfcs' hfdp' hfds' hfpr' htags' hxmm'
  have hsame : u.fsw = s.fsw := spells_unique (by decide) hfsw' hfsw
  refine ⟨t, u, hsave, hload, ?fpr, spells_unique (by decide) hfcw' hfcw, hsame, ?fop,
    spells_unique (by decide) hfip' hfip, spells_unique (by decide) hfcs' hfcs, spells_unique (by decide) hfdp' hfdp,
    spells_unique (by decide) hfds' hfds, ?xmm, ?mxcsr, ?tags⟩
  case fpr =>
    refine fpr_eq_of_readFpr (s.fsw.extractLsb' 11 3) fun j hj => ?_
    rw [← hsame] at hfpr ⊢
    exact spells_unique (by decide) (hfpr' j hj) (hfpr j hj)
  case fop =>
    have hzeros : s.fop.setWidth 16 = 0#5 ++ s.fop := BitVec.setWidth_eq_append (by decide)
    have hfop' : u.fop = (0#5 ++ s.fop).extractLsb' 0 11 := congrArg State.fop hkept
    rw [hfop', ← hzeros, BitVec.extractLsb'_setWidth_of_le (by decide), BitVec.extractLsb'_eq_self]
  case xmm =>
    cases hos : s.cr4.getLsbD 9 with
    | true =>
      obtain ⟨-, -, hxmm⟩ := hxmmPart hos
      exact xmm_eq_of_readXmm fun j hj => spells_unique (by decide) (hxmm' (hcr4 ▸ hos) j hj) (hxmm j hj)
    | false =>
      have hxmm : u.xmm = if t.cr4.getLsbD 9 then u.xmm else t.xmm := congrArg State.xmm hkept
      rw [hxmm, hcr4, hos, hrest]
      rfl
  case mxcsr =>
    have hmxcsr' : u.mxcsr = if t.cr4.getLsbD 9 then imageField t (place t m) 24 32 else t.mxcsr :=
      congrArg State.mxcsr hkept
    rw [hmxcsr']
    split
    · next hos => exact hmx hos
    · rw [hrest]
  case tags =>
    intro i hi
    rw [htags' i hi, htags i hi]
    by_cases hempty : s.ftw.extractLsb' (2 * i) 2 = 3#2
    · simp [hempty]
    · simp [hempty, tagFor_ne_empty]

end Sys2Proof.Machine
end

section
/-! SUPPORT. MOVD and MOVQ with XMM registers, but the stores to memory: the rest of an XMM destination becomes zero
(46_sse2_int128_ext.md rules R532 to R535). -/

namespace Sys2Proof.Machine

open Sys2Proof.Spec

section
variable {s : State} (hready : ReadyX .sse2 s)
include hready

theorem exec_movdXmm_load {reg : Reg} {rm : RM} {x : Dword} (hx : s.gprOrMem 32 rm = .ok x) :
    exec (.movdXmm .load reg rm) s = .next (s.writeXmm reg (x.setWidth 128)) :=
  settle_afterX hready (by rw [hx]; rfl)

theorem exec_movdXmm_store_reg (reg r : Reg) :
    exec (.movdXmm .store reg (.reg r)) s = .next (s.writeGpr r ((s.readXmm reg).extractLsb' 0 32)) :=
  settle_afterX hready rfl

theorem exec_movqXmm_load {reg : Reg} {rm : RM} {x : Qword} (hx : s.xmmOrMem 64 rm = .ok x) :
    exec (.movqXmm .load reg rm) s = .next (s.writeXmm reg (x.setWidth 128)) :=
  settle_afterX hready (by rw [hx]; rfl)

theorem exec_movqXmm_store_reg (reg r : Reg) :
    exec (.movqXmm .store reg (.reg r)) s =
      .next (s.writeXmm r (((s.readXmm reg).extractLsb' 0 64).setWidth 128)) :=
  settle_afterX hready rfl

end

/-- Settles O38: each load reads what its operand holds, and each store form writes the low bits to a register. -/
theorem xmmLowMoves : Obligations.XmmLowMoves := by
  refine fun reg s hready => ⟨fun rm x hx => ?movdLoad, fun r => ?movdStore, fun rm x hx => ?movqLoad, fun r => ?movqStore⟩
  case movdLoad =>
    exact ⟨_, exec_movdXmm_load hready (gprOrMem_of_holds (by decide) hx), wroteXmm_writeXmm ..⟩
  case movdStore =>
    exact ⟨_, exec_movdXmm_store_reg hready reg r, wroteGpr_writeGpr ..⟩
  case movqLoad =>
    exact ⟨_, exec_movqXmm_load hready (xmmOrMem_of_holds (by decide) hx), wroteXmm_writeXmm ..⟩
  case movqStore =>
    exact ⟨_, exec_movqXmm_store_reg hready reg r, wroteXmm_writeXmm ..⟩

end Sys2Proof.Machine
end

section
/-! SUPPORT. The shifts on XMM registers: the packed ones by a common count, and the two by bytes
(46_sse2_int128_ext_pack_logic_shift.md rules R572 to R587, 47_sse2_int128_new.md rules R637, R638). -/

namespace Sys2Proof.Machine

open Sys2Proof.Spec

/-! ## Shifts by a common count (R572 to R587) -/

theorem xmmCount_of_count {s : State} {count : Count} {c : Nat} (h : XmmCount s count c) : s.xmmCount count = .ok c := by
  cases count with
  | rm rm =>
    obtain ⟨b, hb, rfl⟩ := h
    rw [State.xmmCount, xmmOrMem128_of_holds hb, ← BitVec.toNat_setWidth]
    rfl
  | imm v => exact congrArg Except.ok (show c = v.toNat from h).symm

/-! ## Shifts by bytes (R637, R638) -/

section
variable {c j : Nat} (a : Xmm)

theorem lane_shiftLeftBytes (hj : j < 16) : lane 8 j (shiftLeftBytes c a) = if c ≤ j then lane 8 (j - c) a else 0#8 := by
  by_cases hc : c ≤ j
  · have hin : ¬15 < c := by omega
    rw [shiftLeftBytes, if_neg hin, if_pos hc]
    refine BitVec.eq_of_getLsbD_eq fun i hi => ?_
    have hbit : 8 * j + i < 128 ∧ ¬8 * j + i < 8 * c ∧ 8 * j + i - 8 * c = 8 * (j - c) + i := by omega
    simp only [lane, BitVec.getLsbD_extractLsb', BitVec.getLsbD_shiftLeft, hbit, decide_true, decide_false,
      Bool.not_false, Bool.true_and]
  · rw [shiftLeftBytes, if_neg hc]
    split
    · simp [lane]
    · ext i hi
      have hbit : 8 * j + i < 8 * c := by omega
      simp [lane, hbit]

theorem lane_shiftRightBytes :
    lane 8 j (shiftRightBytes c a) = if j + c < 16 then lane 8 (j + c) a else 0#8 := by
  by_cases hc : j + c < 16
  · have hin : ¬15 < c := by omega
    rw [shiftRightBytes, if_neg hin, if_pos hc]
    ext i hi
    have hbit : 8 * c + (8 * j + i) = 8 * (j + c) + i := by omega
    simp [lane, hbit]
  · rw [shiftRightBytes, if_neg hc]
    split
    · simp [lane]
    · ext i hi
      have hbit : a.getLsbD (8 * c + (8 * j + i)) = false := BitVec.getLsbD_of_ge _ _ (by omega)
      simp [lane, hbit]

end

section
variable {s : State} (hready : ReadyX .sse2 s) (rm : Reg) (imm : Imm8)
include hready

theorem exec_pslldq :
    exec (.pslldq rm imm) s = .next (s.writeXmm rm (shiftLeftBytes imm.toNat (s.readXmm rm))) :=
  settle_afterX hready rfl

theorem exec_psrldq :
    exec (.psrldq rm imm) s = .next (s.writeXmm rm (shiftRightBytes imm.toNat (s.readXmm rm))) :=
  settle_afterX hready rfl

end

/-- Settles O33: every row's XMM form writes a shift whose lanes are the row's, and a shift by bytes moves whole lanes of
eight bits. -/
theorem xmmShifts : Obligations.XmmShifts := by
  refine ⟨fun r hr dst count s c hready hcount => ?common, fun rm imm s hready => ⟨?pslldq, ?psrldq⟩⟩
  case common =>
    obtain ⟨f, hf⟩ := shifts_shiftsAs r hr
    have hexec : exec (r.xmm dst count) s = .next (s.writeXmm dst (f 128 c (s.readXmm dst))) :=
      (hf.xmm ..).trans (xmmShift_eq (checkX_of_ready hready) (xmmCount_of_count hcount))
    exact ⟨_, _, hexec, wroteXmm_writeXmm .., fun _ => hf.lanes c _⟩
  case pslldq =>
    exact ⟨_, _, exec_pslldq hready rm imm, wroteXmm_writeXmm .., fun _ => lane_shiftLeftBytes _⟩
  case psrldq =>
    exact ⟨_, _, exec_psrldq hready rm imm, wroteXmm_writeXmm .., fun _ _ => lane_shiftRightBytes _⟩

end Sys2Proof.Machine
end

section
/-! SUPPORT. The availability checks: what each class raises, in its order, and that every instruction begins with the checks
of its class (60_exceptions.md rules R663 to R671). -/

namespace Sys2Proof.Machine

open Sys2Proof.Spec

/-! ## What the checks of a class raise -/

/-- The availability checks of a class, for a feature; class FX has the feature FXSR alone (R668). -/
def checkKlass : Klass → Ext → State → Res Unit
  | .m, x => checkM x
  | .x, x => checkX x
  | .xm, x => checkXM x
  | .fx, _ => checkFX
  | .h, x => checkH x

theorem klass_fx {i : Instr} {x : Ext} (h : klass i = (.fx, x)) : x = .sse := by
  unfold klass at h
  split at h <;> cases h <;> rfl

theorem raiseIf_of_true {b : Bool} (h : b = true) (e : Exn) : raiseIf b e = raise (.plain e) := by rw [h]; rfl

/-- Checks whose first one raises. -/
theorem raiseIf_bind_of_true {α : Type} {b : Bool} (h : b = true) (e : Exn) (f : Unit → Res α) :
    raiseIf b e >>= f = raise (.plain e) := by rw [h]; rfl

/-- Checks whose first one passes. -/
theorem raiseIf_bind_of_false {α : Type} {b : Bool} (h : b = false) (e : Exn) (f : Unit → Res α) :
    raiseIf b e >>= f = f () := by rw [h]; rfl

section
variable {x : Ext} {s : State}

theorem checkM_of_unavailable (h : s.plat.ext.has x = false ∨ s.em = true) : checkM x s = raise (.plain .ud) :=
  raiseIf_bind_of_true (by simpa using h) ..

theorem checkM_of_ts (hx : s.plat.ext.has x = true) (hem : s.em = false) (hts : s.ts = true) :
    checkM x s = raise (.plain .nm) :=
  (raiseIf_bind_of_false (by simp [hx, hem]) ..).trans (raiseIf_bind_of_true hts ..)

theorem checkM_of_es (hx : s.plat.ext.has x = true) (hem : s.em = false) (hts : s.ts = false) (hes : s.es = true) :
    checkM x s = raise (.plain .mf) :=
  (raiseIf_bind_of_false (by simp [hx, hem]) ..).trans ((raiseIf_bind_of_false hts ..).trans (raiseIf_of_true hes _))

theorem checkX_of_unavailable (h : s.plat.ext.has x = false ∨ s.em = true ∨ s.osfxsr = false) :
    checkX x s = raise (.plain .ud) :=
  raiseIf_bind_of_true (by simpa [or_assoc] using h) ..

theorem checkX_of_ts (hx : s.plat.ext.has x = true) (hem : s.em = false) (hos : s.osfxsr = true) (hts : s.ts = true) :
    checkX x s = raise (.plain .nm) :=
  (raiseIf_bind_of_false (by simp [hx, hem, hos]) ..).trans (raiseIf_of_true hts _)

/-- What class X raises, class XM raises. -/
theorem checkXM_of_checkX {e : Exn} (h : checkX x s = raise (.plain e)) : checkXM x s = raise (.plain e) := by
  rw [checkXM, h]
  rfl

theorem checkXM_of_es (h : ReadyX x s) (hes : s.es = true) : checkXM x s = raise (.plain .mf) := by
  rw [checkXM, checkX_of_ready h, hes]
  rfl

theorem checkFX_of_unavailable (h : s.plat.ext.has .sse = false) : checkFX s = raise (.plain .ud) :=
  raiseIf_bind_of_true (by simpa using h) ..

theorem checkFX_of_ts_or_em (hx : s.plat.ext.has .sse = true) (h : s.ts = true ∨ s.em = true) :
    checkFX s = raise (.plain .nm) :=
  (raiseIf_bind_of_false (by simpa using hx) ..).trans (raiseIf_of_true (by simpa using h) _)

theorem checkH_of_unavailable (h : s.plat.ext.has x = false) : checkH x s = raise (.plain .ud) :=
  raiseIf_of_true (by simpa using h) _

end

/-! ## Every instruction -/

/-- Every processor has the feature that PAUSE asks for (R671). -/
theorem checkH_mmx (s : State) : checkH .mmx s = .ok () := checkH_eq_ok.mpr (by cases s.plat.ext <;> rfl)

/-- Every instruction begins with the checks of its class. They stand first in its meaning: the moves have one for each
direction, and CVTPI2PD one for each kind of source, of another class. PAUSE makes no check, and that of its class passes. -/
theorem exec_checkKlass (i : Instr) (s : State) :
    ∃ f : Unit → Res State, exec i s = settle s (checkKlass (klass i).1 (klass i).2 s >>= f) := by
  cases i
  case movdMm d _ _ | movqMm d _ _ | movdXmm d _ _ | movqXmm d _ _ | movaps d _ _ | movups d _ _ | movss d _ _
      | movlps d _ _ | movhps d _ _ | movapd d _ _ | movupd d _ _ | movsd d _ _ | movlpd d _ _ | movhpd d _ _
      | movdqa d _ _ | movdqu d _ _ =>
    cases d <;> exact ⟨_, rfl⟩
  case cvtpi2pd _ rm => cases rm <;> exact ⟨_, rfl⟩
  case pause => exact ⟨fun _ => .ok s, congrArg (fun c => settle s (c >>= fun _ => .ok s)) (checkH_mmx s).symm⟩
  all_goals exact ⟨_, rfl⟩

/-- What the checks of its class raise, the instruction takes. -/
theorem exec_of_checkKlass_raise {i : Instr} {s : State} {e : Exn}
    (h : checkKlass (klass i).1 (klass i).2 s = raise (.plain e)) : exec i s = .next (took s e none none) := by
  obtain ⟨f, hf⟩ := exec_checkKlass i s
  rw [h] at hf
  exact hf.trans (congrArg _ (takeException_eq_took ..))

/-- Settles O11: every instruction takes what the checks of its class raise. -/
theorem availabilityExceptions : Obligations.AvailabilityExceptions := by
  intro i s
  have takes : ∀ {e : Exn}, checkKlass (klass i).1 (klass i).2 s = raise (.plain e) →
      exec i s = .next (took s e none none) := exec_of_checkKlass_raise
  rcases hk : klass i with ⟨k, x⟩
  rw [hk] at takes
  cases k with
  | m =>
    exact ⟨fun h => takes (checkM_of_unavailable h), fun hx hem hts => takes (checkM_of_ts hx hem hts),
      fun hx hem hts hes => takes (checkM_of_es hx hem hts hes)⟩
  | x =>
    exact ⟨fun h => takes (checkX_of_unavailable h), fun hx hem hos hts => takes (checkX_of_ts hx hem hos hts)⟩
  | xm =>
    exact ⟨fun h => takes (checkXM_of_checkX (checkX_of_unavailable h)),
      fun hx hem hos hts => takes (checkXM_of_checkX (checkX_of_ts hx hem hos hts)),
      fun hready hes => takes (checkXM_of_es hready hes)⟩
  | fx =>
    obtain rfl := klass_fx hk
    exact ⟨fun h => takes (checkFX_of_unavailable h), fun hx h => takes (checkFX_of_ts_or_em hx h)⟩
  | h => exact fun h => takes (checkH_of_unavailable h)

end Sys2Proof.Machine
end

section
/-! SUPPORT. The frame of an instruction that records an exception (60_exceptions.md rules R661, R662). -/

namespace Sys2Proof.Machine

open Sys2Proof.Spec

/-- Numeric conditions enter MXCSR's bits 5:0 alone. -/
theorem mxOr_eq_or_flags (m : Dword) (c : BitVec 6) : mxOr m c = m ||| (mxOr m c &&& 0x3F#32) := by
  have hc : c.setWidth 32 &&& 0x3F#32 = c.setWidth 32 := by revert c; decide
  rw [mxOr, BitVec.and_or_distrib_right, hc]
  ext k hk
  simp only [BitVec.getElem_or, BitVec.getElem_and]
  cases m[k] <;> simp

/-- Where an exception is recorded that was not there before, the instruction took it. -/
theorem exec_raises {i : Instr} {s t : State} {r : Raised} (hs : s.raised = none) (h : exec i s = .next t)
    (hr : t.raised = some r) : ∃ x : Raise, x.Proper ∧ t = takeException s x := by
  refine (exec_next h).resolve_left fun hc => ?_
  cases hr.symm.trans (hc.raised_kept.trans hs)

/-- Settles O14: an exception taken records itself, its address in CR2, which only a page fault has, and its numeric
conditions. -/
theorem exceptionChangesNothingElse : Obligations.ExceptionChangesNothingElse := by
  intro i s t hs h r hr
  obtain ⟨x, hx, rfl⟩ := exec_raises hs h hr
  obtain rfl := Option.some.inj hr
  refine ⟨rfl, rfl, mxOr_eq_or_flags .., fun hne => ?_, fun hpf => ?_⟩
  · have haddr : x.addr = none := Option.not_isSome_iff_eq_none.mp (mt hx.mp hne)
    rw [takeException_cr2, haddr]
    rfl
  · obtain ⟨a, ha⟩ := Option.isSome_iff_exists.mp (hx.mpr hpf)
    rw [takeException_cr2]
    exact ha.trans (congrArg some (by rw [ha]; rfl))

end Sys2Proof.Machine
end
